-- ==== Sys2Proof/Word.lean ====
section
/-! DEFINITION. The word types of the cache timing block (spec/00_scope.md R6 to R10, R17). -/

namespace Sys2Proof

/-- A 32-bit address, R8. -/
abbrev Addr := BitVec 32

/-- A line tag, address bits [31:10], R10. -/
abbrev Tag := BitVec 22

/-- An entry (set) number, 0 to 255, R7. -/
abbrev EntryIx := BitVec 8

/-- A way number, 0 to 3, R6. -/
abbrev Way := Fin 4

/-- The packed recency relation of one entry, R10, R64. -/
abbrev LruBits := BitVec 6

/-- An area code, R62. -/
abbrev AreaCode := BitVec 3

/-- A cycle count carried by CONSUME, R109. -/
abbrev Cycles := BitVec 32

/-- A command word, R65. -/
abbrev CommandWord := BitVec 67

end Sys2Proof
end

