-- ==== Sys2Proof/Syntax.lean ====
section
/-! DEFINITION. The commands of the block: one constructor per row of spec/opcode_table.json. An
operand is a field the command uses; a field it ignores (R67) is no operand. -/

namespace Sys2Proof

/-- The eight commands, R66. -/
inductive Instr
  /-- Notify a read access, R92. -/
  | read (addr : Addr)
  /-- Notify a write access, R96. -/
  | write (addr : Addr)
  /-- Write back, invalidate and clear the counters, R106. -/
  | flush
  /-- Set the enable flag, R114. -/
  | seten (b : Bool)
  /-- Drain the accumulator, R109. -/
  | consume (n : Cycles)
  /-- Reserved op code 5, R115. -/
  | reserved5
  /-- Reserved op code 6, R115. -/
  | reserved6
  /-- Reserved op code 7, R115. -/
  | reserved7
  deriving DecidableEq, Repr

end Sys2Proof
end

