-- ==== Sys2Proof/WellFormed.lean ====
section
/-! DEFINITION. Well-formed commands, assembler lines and policy maps. -/

namespace Sys2Proof

/-- Every operand of `Instr` is a bit vector of exactly its field's width (R65), so no ill-formed command
can be written down and there is nothing left to check. -/
def Instr.wf : Instr → Bool
  | .read _ => true
  | .write _ => true
  | .flush => true
  | .seten _ => true
  | .consume _ => true
  | .reserved5 => true
  | .reserved6 => true
  | .reserved7 => true

/-- The mnemonics of the assembler syntax, R70. The reserved op codes have none. -/
inductive AsmMnemonic
  | READ
  | WRITE
  | FLUSH
  | SETEN
  | CONSUME
  deriving DecidableEq, Repr

/-- One assembler line, R70: a mnemonic and at most one number, as read from the text. -/
structure AsmLine where
  mnemonic : AsmMnemonic
  operand : Option Nat
  deriving DecidableEq, Repr

/-- R70: `<addr>` and `<n>` are 32-bit numbers, SETEN takes 0 or 1, FLUSH takes nothing. -/
def AsmLine.wf (l : AsmLine) : Bool :=
  match l.mnemonic, l.operand with
  | .READ, some a => decide (a < 2 ^ 32)
  | .WRITE, some a => decide (a < 2 ^ 32)
  | .FLUSH, none => true
  | .SETEN, some b => decide (b ≤ 1)
  | .CONSUME, some n => decide (n < 2 ^ 32)
  | .READ, none => false
  | .WRITE, none => false
  | .FLUSH, some _ => false
  | .SETEN, none => false
  | .CONSUME, none => false

/-- R139: a policy map that holds the reserved code 3 is refused. -/
def policyCodesWf (codes : Vector (BitVec 2) 256) : Bool :=
  codes.toList.all (fun c => c != 3)

end Sys2Proof
end

