-- ==== Sys2Proof/Decode.lean ====
section
/-! DEFINITION. The command word: decoder, encoder, opcode table and assembler forms
(spec/30_encoding.md section 4 and 5, spec/opcode_table.json). The decoder selects by `op` alone (R67) and
every op code has a row, so it rejects no 67-bit word; a number of more than 67 bits is no command word
and is rejected by name (R68). -/

namespace Sys2Proof

/-- Command bits [66:64], R65. -/
def opField (w : CommandWord) : BitVec 3 := w.extractLsb 66 64

/-- Command bits [63:32], R65. -/
def addrField (w : CommandWord) : BitVec 32 := w.extractLsb 63 32

/-- Command bits [31:0], R65. -/
def argField (w : CommandWord) : BitVec 32 := w.extractLsb 31 0

/-- SETEN reads `arg[0]` alone, R67. -/
def enableBit (arg : BitVec 32) : Bool := arg.getLsbD 0

/-- R66, R67: the command a word stands for. -/
def decode (w : CommandWord) : Instr :=
  match (opField w).toNat with
  | 0 => .read (addrField w)
  | 1 => .write (addrField w)
  | 2 => .flush
  | 3 => .seten (enableBit (argField w))
  | 4 => .consume (argField w)
  | 5 => .reserved5
  | 6 => .reserved6
  | _ => .reserved7

/-- Why a number is no command word. -/
inductive DecodeReject
  /-- More than 67 bits, R68 ("a single fixed length"). -/
  | widerThanACommandWord
  deriving DecidableEq, Repr

/-- The decoder on a number of any size. -/
def decodeNat (w : Nat) : Except DecodeReject Instr :=
  if w < 2 ^ 67 then .ok (decode (BitVec.ofNat 67 w)) else .error .widerThanACommandWord

/-- The decoder on a row of spec/opcode_table.json: the low `nbits` bits are `w`'s, the bits above are 0
(log entry 11). -/
def decodeTableWord (nbits w : Nat) : Option Instr :=
  match decodeNat (w % 2 ^ nbits) with
  | .ok i => some i
  | .error _ => none

/-- The three fields side by side, R65. -/
def packWord (op : BitVec 3) (addr arg : BitVec 32) : CommandWord := op ++ addr ++ arg

/-- The op code of a command, R66. -/
def Instr.op : Instr → BitVec 3
  | .read _ => 0
  | .write _ => 1
  | .flush => 2
  | .seten _ => 3
  | .consume _ => 4
  | .reserved5 => 5
  | .reserved6 => 6
  | .reserved7 => 7

/-- The command word of a command; the fields it ignores (R67) are written as 0. -/
def encode : Instr → CommandWord
  | .read addr => packWord 0 addr 0
  | .write addr => packWord 1 addr 0
  | .flush => packWord 2 0 0
  | .seten b => packWord 3 0 (if b then 1 else 0)
  | .consume n => packWord 4 0 n
  | .reserved5 => packWord 5 0 0
  | .reserved6 => packWord 6 0 0
  | .reserved7 => packWord 7 0 0

/-- One row of spec/opcode_table.json. -/
structure OpcodeRow where
  mnemonic : String
  pattern : CommandWord
  mask : CommandWord
  deriving DecidableEq, Repr

/-- spec/opcode_table.json, row by row. -/
def opcodeTable : List OpcodeRow :=
  [⟨"READ", 0x00000000000000000, 0x70000000000000000⟩,
   ⟨"WRITE", 0x10000000000000000, 0x70000000000000000⟩,
   ⟨"FLUSH", 0x20000000000000000, 0x70000000000000000⟩,
   ⟨"SETEN", 0x30000000000000000, 0x70000000000000000⟩,
   ⟨"CONSUME", 0x40000000000000000, 0x70000000000000000⟩,
   ⟨"RESERVED5", 0x50000000000000000, 0x70000000000000000⟩,
   ⟨"RESERVED6", 0x60000000000000000, 0x70000000000000000⟩,
   ⟨"RESERVED7", 0x70000000000000000, 0x70000000000000000⟩]

/-- A word belongs to a row when it has the row's pattern under the row's mask. -/
def OpcodeRow.covers (r : OpcodeRow) (w : CommandWord) : Bool := w &&& r.mask == r.pattern

/-- The mnemonic of a command, as spec/opcode_table.json spells it. -/
def Instr.mnemonic : Instr → String
  | .read _ => "READ"
  | .write _ => "WRITE"
  | .flush => "FLUSH"
  | .seten _ => "SETEN"
  | .consume _ => "CONSUME"
  | .reserved5 => "RESERVED5"
  | .reserved6 => "RESERVED6"
  | .reserved7 => "RESERVED7"

/-- The command an assembler line stands for, R70; an ill-formed line stands for none. -/
def AsmLine.assemble (l : AsmLine) : Option Instr :=
  if l.wf then
    match l.mnemonic, l.operand with
    | .READ, some a => some (.read (BitVec.ofNat 32 a))
    | .WRITE, some a => some (.write (BitVec.ofNat 32 a))
    | .FLUSH, _ => some .flush
    | .SETEN, some b => some (.seten (b == 1))
    | .CONSUME, some n => some (.consume (BitVec.ofNat 32 n))
    | _, none => none
  else none

/-- The assembler line of a command, R70. The reserved op codes have no assembler form. -/
def Instr.toAsm : Instr → Option AsmLine
  | .read addr => some ⟨.READ, some addr.toNat⟩
  | .write addr => some ⟨.WRITE, some addr.toNat⟩
  | .flush => some ⟨.FLUSH, none⟩
  | .seten b => some ⟨.SETEN, some b.toNat⟩
  | .consume n => some ⟨.CONSUME, some n.toNat⟩
  | .reserved5 => none
  | .reserved6 => none
  | .reserved7 => none

end Sys2Proof
end

