-- ==== Sys2Proof/Config.lean ====
section
/-! DEFINITION. What is fixed when the block is constructed (spec/00_scope.md R11, R13, R15;
spec/70_reset_and_hazards.md R139), and the free values the spec leaves open. The default profile is in
Machine/Profile.lean. -/

namespace Sys2Proof

/-- A cache policy, R63. The reserved code 3 is no policy: a map that holds it is refused at
construction (R139, Machine/Construct.lean). -/
inductive Policy
  | disabled
  | writeBack
  | writeThrough
  deriving DecidableEq, Repr

/-- `ENABLE_GATING`, R114: what `enabled = 0` does to READ and WRITE. -/
inductive EnableGating
  /-- `enabled` is read by no rule. -/
  | none
  /-- While `enabled = 0`, every READ and WRITE takes the Disabled path. -/
  | bypass
  deriving DecidableEq, Repr

/-- `VARIANT`, R15. -/
inductive Variant
  | timing
  | passthrough
  deriving DecidableEq, Repr

/-- The configuration, constant while the block runs (R39, R139). -/
structure Config where
  /-- `AREA_WAIT`, R31. -/
  areaWait : Vector Nat 8
  /-- `POLICY_MAP`, R32. -/
  policyMap : Vector Policy 256
  /-- `LRU_AND`, R33. -/
  lruAnd : Vector LruBits 4
  /-- `LRU_OR`, R33. -/
  lruOr : Vector LruBits 4
  /-- `AREA_ADDR_MASK`, R71. -/
  areaAddrMask : Addr
  /-- `INIT_PREV_WRITE`, R135. -/
  initPrevWrite : Bool
  /-- `INIT_PREV_AREA`, R135. -/
  initPrevArea : AreaCode
  /-- `RESET_ENABLED`, R137. -/
  resetEnabled : Bool
  /-- `ENABLE_GATING`, R114. -/
  enableGating : EnableGating
  /-- `READ_EVICT_DIRTY_CHARGE`, R95. -/
  readEvictDirtyCharge : Bool
  /-- `ACC_WIDTH`, R27; `none` is unbounded. -/
  accWidth : Option Nat
  /-- `COUNTER_WIDTH`, R28; `none` is unbounded. -/
  counterWidth : Option Nat
  /-- `VARIANT`, R15. -/
  variant : Variant
  deriving DecidableEq, Repr

/-- `PASSTHROUGH_HIT`, R116: the hit result of the passthrough variant's draw number `k`, under no law.
DESIGN CHOICE (log entry 5), safe: nothing is known of it. -/
opaque Config.passthroughHit (k : Nat) : Bool

/-- What a counter holds after its count went past its width, R28 ("any value"), for draw number `k`.
DESIGN CHOICE (log entry 6), safe: nothing is known of it. -/
opaque Config.freeCount (k : Nat) : Nat

end Sys2Proof
end

