-- ==== Sys2Proof/Machine/Operands.lean ====
section
/-! DEFINITION. The one operand form of the block, an address, and the combinational functions over it
(spec/40_classification.md, spec/30_encoding.md sections 1 and 2). -/

namespace Sys2Proof.Machine

/-- `AREA_RSV`, R62: the source's sentinel -1. -/
def areaRsv : AreaCode := 7

/-- `area(addr)`, R71: thresholds on the whole masked address. -/
def area (c : Config) (addr : Addr) : AreaCode :=
  let a := addr &&& c.areaAddrMask
  if a < 0x04000000#32 then 0
  else if a < 0x08000000#32 then areaRsv
  else if a < 0x1C000000#32 then a.extractLsb 28 26
  else areaRsv

/-- `areaWaitStates(a)`, R74. -/
def areaWaitStates (c : Config) (a : AreaCode) : Nat := c.areaWait[a.toNat]'a.isLt

/-- `addr[31:24]`, R57. -/
def topByte (addr : Addr) : BitVec 8 := addr.extractLsb 31 24

/-- `cachePolicy(addr)`, R76. -/
def cachePolicy (c : Config) (addr : Addr) : Policy := c.policyMap[(topByte addr).toNat]'(topByte addr).isLt

/-- `index(addr) = addr[11:4]`, R59, R79. -/
def index (addr : Addr) : EntryIx := addr.extractLsb 11 4

/-- `tag(addr) = addr[31:10]`, R60, R79. -/
def tag (addr : Addr) : Tag := addr.extractLsb 31 10

/-- `lineAddr(t)`, R80: the address whose bits [31:10] are the tag and whose bits [9:0] are zero. -/
def lineAddr (t : Tag) : Addr := t ++ 0#10

end Sys2Proof.Machine
end

