-- ==== Sys2Proof/Machine/Profile.lean ====
section
/-! DEFINITION. The default profile: the values the source hard-codes and the spec's defaults of the open
parameters (spec/10_state.md R31 to R33, spec/00_scope.md R13), and the codes of the policies. -/

namespace Sys2Proof.Machine

/-- R31: the default `AREA_WAIT`, area codes 0 to 7. -/
def defaultAreaWait : Vector Nat 8 := #v[10, 0, 2, 2, 3, 10, 10, 0]

/-- R32: the default `POLICY_MAP`, by top byte: 0x00-0x7F, 0x80-0x9F, 0xA0-0xBF, 0xC0-0xDF, 0xE0-0xFF. -/
def defaultPolicyList : List Policy :=
  List.replicate 128 .writeBack ++ List.replicate 32 .writeThrough ++ List.replicate 32 .disabled ++
    List.replicate 32 .writeBack ++ List.replicate 32 .disabled

/-- R32. -/
def defaultPolicyMap : Vector Policy 256 := ⟨⟨defaultPolicyList⟩, by
  rw [List.size_toArray, defaultPolicyList]
  simp only [List.length_append, List.length_replicate]⟩

/-- R33: the default `LRU_AND`, ways 0 to 3. -/
def defaultLruAnd : Vector LruBits 4 := #v[0x07, 0x19, 0x2A, 0x34]

/-- R33: the default `LRU_OR`, ways 0 to 3. -/
def defaultLruOr : Vector LruBits 4 := #v[0x00, 0x20, 0x14, 0x0B]

/-- R13: every parameter at its default. -/
def defaultConfig : Config where
  areaWait := defaultAreaWait
  policyMap := defaultPolicyMap
  lruAnd := defaultLruAnd
  lruOr := defaultLruOr
  areaAddrMask := 0xFFFFFFFF
  initPrevWrite := false
  initPrevArea := 0
  resetEnabled := false
  enableGating := .none
  readEvictDirtyCharge := false
  accWidth := none
  counterWidth := none
  variant := .timing

/-- R63: the code of a policy. -/
def policyCode : Policy → BitVec 2
  | .disabled => 0
  | .writeBack => 1
  | .writeThrough => 2

/-- R63: the policy of a code; the reserved code 3 has none. -/
def policyOfCode (c : BitVec 2) : Option Policy :=
  match c.toNat with
  | 0 => some .disabled
  | 1 => some .writeBack
  | 2 => some .writeThrough
  | _ => none

/-- A table mapped entry by entry, by recursion on its list so that it can be evaluated. -/
def mapTable {α β : Type} {n : Nat} (f : α → β) (v : Vector α n) : Vector β n :=
  ⟨⟨v.toList.map f⟩, by simp⟩

end Sys2Proof.Machine
end

