-- ==== Sys2Proof/Machine/State.lean ====
section
/-! DEFINITION. The state of the block, as plain data (spec/10_state.md), and its reset
(spec/70_reset_and_hazards.md R131 to R138). -/

namespace Sys2Proof.Machine

/-- One line of the tag array, R21 to R23. -/
structure Line where
  valid : Bool
  dirty : Bool
  tag : Tag
  deriving DecidableEq, Repr

/-- One session counter, R28. -/
structure Counter where
  /-- What the counter holds. -/
  value : Nat
  /-- The MODEL's own: the count went past 2^COUNTER_WIDTH - 1 since the counter was last cleared, so its
  value is unspecified (log entry 6). -/
  past : Bool
  deriving DecidableEq, Repr

/-- The four session counters, R28. -/
structure Counters where
  reads : Counter
  hits : Counter
  misses : Counter
  disabled : Counter
  deriving DecidableEq, Repr

/-- `fault_cause`, R118; its codes are in Machine/Flags.lean. -/
inductive FaultCause
  | none
  | lruInvalid
  | accOverflow
  | badOp
  deriving DecidableEq, Repr

/-- The answer to the latest command, R69. A faulted command has no `rsp_hit` and no `rsp_remaining` (R119:
they carry no meaning). -/
inductive Response
  /-- No command has been answered since reset (log entry 4). -/
  | idle
  /-- `rsp_hit` of a READ or WRITE. -/
  | access (hit : Bool)
  /-- `rsp_remaining` of a CONSUME. -/
  | remaining (cycles : Cycles)
  /-- FLUSH or SETEN: no value. -/
  | done
  /-- `rsp_fault = 1`, with `fault_cause`. -/
  | fault (cause : FaultCause)
  deriving DecidableEq, Repr

/-- What the outside presents to the block (log entries 1 and 2). -/
inductive PortEvent
  /-- The owner presents a command word, R65. -/
  | command (w : CommandWord)
  /-- The reset input is asserted, R131. -/
  | resetInput
  deriving DecidableEq, Repr

/-- The whole state: what R20 lists, the response, and the model's own port and draw counter. -/
structure State where
  /-- The line array, entry by entry and way by way, R21 to R23. -/
  lines : Vector (Vector Line 4) 256
  /-- The LRU array, R25. -/
  lru : Vector LruBits 256
  /-- The wait-state accumulator, R27. -/
  acc : Nat
  /-- `prev.write`, R29. -/
  prevWrite : Bool
  /-- `prev.area`, R29. -/
  prevArea : AreaCode
  /-- The session counters, R28. -/
  cnt : Counters
  /-- The enable flag, R30. -/
  enabled : Bool
  /-- `fault`, R34. -/
  fault : Bool
  /-- `fault_cause`, R34. -/
  faultCause : FaultCause
  /-- The construction-time configuration, R20, R139. -/
  cfg : Config
  /-- The answer to the latest command, R69. -/
  response : Response
  /-- The MODEL's own: what has been presented and not yet executed, oldest first (log entry 1). -/
  port : List PortEvent
  /-- The MODEL's own: how many free values have been drawn (log entry 5). -/
  draws : Nat
  deriving DecidableEq, Repr

/-- The machine never stops with a fault: a fault of the block is a state it enters (R119) and stays in
(R120), so there is no reason here. -/
inductive Fault
  deriving DecidableEq, Repr

/-- Why an instruction has no meaning. -/
inductive Refusal
  /-- Raised by `exec` alone, for an instruction that has no meaning in the model yet. Safe: nothing is
  claimed of it. No arm raises it now. -/
  | notModelled (mnemonic : String)
  deriving DecidableEq, Repr

/-- A line at reset, R132. -/
def Line.reset : Line := ⟨false, false, 0⟩

/-- A counter at reset and after FLUSH, R136, R106. -/
def Counter.zero : Counter := ⟨0, false⟩

/-- The counters at reset and after FLUSH, R136, R106. -/
def Counters.zero : Counters := ⟨.zero, .zero, .zero, .zero⟩

/-- The state right after reset under a configuration, R131 to R138, with nothing presented. -/
def State.resetWith (c : Config) : State where
  lines := Vector.replicate 256 (Vector.replicate 4 Line.reset)
  lru := Vector.replicate 256 0
  acc := 0
  prevWrite := c.initPrevWrite
  prevArea := c.initPrevArea
  cnt := .zero
  enabled := c.resetEnabled
  fault := false
  faultCause := .none
  cfg := c
  response := .idle
  port := []
  draws := 0

/-- The state right after reset under the default profile (log entry 7). -/
def State.reset : State := State.resetWith defaultConfig

end Sys2Proof.Machine
end

