-- ==== Sys2Proof/Machine/Flags.lean ====
section
/-! DEFINITION. The flags: hit, dirty, turnaround, the fault cause and the response bits, the widths, and the
drain arithmetic. The block has no condition codes (spec/10_state.md R36). -/

namespace Sys2Proof.Machine

/-- The hit test of one way, R90. -/
def Line.hits (l : Line) (t : Tag) : Bool := l.valid && l.tag == t

/-- A line whose write-back is pending, R101, R107. -/
def Line.pending (l : Line) : Bool := l.valid && l.dirty

/-- What writing a line back costs, R101, R107: its original area's cost (R80) if it is valid and dirty,
nothing otherwise. -/
def writeBackCost (c : Config) (l : Line) : Nat :=
  if l.pending then areaWaitStates c (area c (lineAddr l.tag)) else 0

/-- The line after a WRITE hit, R97: dirty exactly under WriteBack. -/
def Line.writeHit (l : Line) (p : Policy) : Line := { l with dirty := p == .writeBack }

/-- The line after FLUSH, R106; the tag is kept (R108). -/
def Line.flushed (l : Line) : Line := { l with valid := false, dirty := false }

/-- The turnaround charge, R91: 1 for a change of direction or of area or of both. -/
def turnaroundCharge (prevWrite : Bool) (prevArea : AreaCode) (isWrite : Bool) (a : AreaCode) : Nat :=
  if prevWrite != isWrite || prevArea != a then 1 else 0

/-- Whether a number can stand in a register of the given width; `none` is unbounded (R27, R28). -/
def fitsWidth (width : Option Nat) (n : Nat) : Bool :=
  match width with
  | none => true
  | some w => decide (n < 2 ^ w)

/-- Whether the next count is past the width, or an earlier one was, R28. -/
def Counter.unspecified (c : Config) (k : Counter) : Bool := k.past || !fitsWidth c.counterWidth (k.value + 1)

/-- A counter after one increment, R28; `d` is the number of the free value to draw if its value is
unspecified. -/
def Counter.bump (c : Config) (d : Nat) (k : Counter) : Counter :=
  if k.unspecified c then ⟨Config.freeCount d, true⟩ else ⟨k.value + 1, false⟩

/-- `DRAIN_RATIO`, R12. -/
def drainRatio : Nat := 2

/-- The accumulator after CONSUME `n`, R110 to R112. -/
def accAfterDrain (acc : Nat) (n : Cycles) : Nat :=
  if acc = 0 then 0
  else if drainRatio * acc ≤ n.toNat then 0
  else acc - n.toNat / drainRatio

/-- `remainingCycles` of CONSUME `n`, R110 to R112; `2*acc` is exact (R111). -/
def remainingCycles (acc : Nat) (n : Cycles) : Cycles :=
  if acc = 0 then n
  else if drainRatio * acc ≤ n.toNat then BitVec.ofNat 32 (n.toNat - drainRatio * acc)
  else 0

/-- The codes of `fault_cause`, R118. -/
def FaultCause.code : FaultCause → BitVec 2
  | .none => 0
  | .lruInvalid => 1
  | .accOverflow => 2
  | .badOp => 3

/-- `rsp_fault`, R69. -/
def Response.rspFault : Response → Bool
  | .idle => false
  | .access _ => false
  | .remaining _ => false
  | .done => false
  | .fault _ => true

/-- `rsp_hit`, R69, where the response has one. -/
def Response.rspHit : Response → Option Bool
  | .idle => none
  | .access hit => some hit
  | .remaining _ => none
  | .done => none
  | .fault _ => none

/-- `rsp_remaining`, R69, where the response has one. -/
def Response.rspRemaining : Response → Option Cycles
  | .idle => none
  | .access _ => none
  | .remaining n => some n
  | .done => none
  | .fault _ => none

/-- `fault_cause` on the port, R69: valid when `rsp_fault = 1`. -/
def Response.rspFaultCause : Response → Option (BitVec 2)
  | .idle => none
  | .access _ => none
  | .remaining _ => none
  | .done => none
  | .fault cause => some cause.code

end Sys2Proof.Machine
end

