-- ==== Sys2Proof/Machine/Lru.lean ====
section
/-! DEFINITION. The LRU replacement encoder on one 6-bit pattern (spec/41_lru.md, spec/30_encoding.md R64). -/

namespace Sys2Proof.Machine

/-- R64: bit `i` says that the first way of pair `i` is newer than the second. -/
def lruPairs : List (Way × Way) := [(3, 2), (3, 1), (2, 1), (3, 0), (2, 0), (1, 0)]

/-- `newer(v, x, y)`, R81; no way is newer than itself. -/
def newer (v : LruBits) (x y : Way) : Bool :=
  match lruPairs.findIdx? (· == (x, y)), lruPairs.findIdx? (· == (y, x)) with
  | some i, _ => v.getLsbD i
  | none, some i => !v.getLsbD i
  | none, none => false

/-- The 24 valid rows of `OLDEST`, R83: pattern and least recently used way. -/
def oldestRows : List (LruBits × Way) :=
  [(0x00, 3), (0x01, 2), (0x03, 2), (0x04, 3), (0x06, 1), (0x07, 1), (0x0B, 2), (0x0F, 1)] ++
  [(0x14, 3), (0x16, 1), (0x1E, 1), (0x1F, 1), (0x20, 3), (0x21, 2), (0x29, 2), (0x2B, 2)] ++
  [(0x30, 3), (0x34, 3), (0x38, 0), (0x39, 0), (0x3B, 0), (0x3C, 0), (0x3E, 0), (0x3F, 0)]

/-- `OLDEST[v]`, R83; `none` is the sentinel INVALID. -/
def oldest (v : LruBits) : Option Way := oldestRows.lookup v

/-- R86: the pattern after way `w` is used. -/
def touched (c : Config) (v : LruBits) (w : Way) : LruBits := (v &&& c.lruAnd[w]) ||| c.lruOr[w]

end Sys2Proof.Machine
end

