-- ==== Sys2Proof/Machine/Ops.lean ====
section
/-! DEFINITION. The named operations over the state: the primitives of the spec's pseudocode
(spec/00_scope.md R18), raising a fault and refusing a command (spec/60_exceptions.md R119 to R121), reset
(spec/70_reset_and_hazards.md R131), and taking the next event from the port. -/

namespace Sys2Proof.Machine

/-! The line array and the LRU array. -/

/-- `line[e][w]`, R18. -/
def State.line (s : State) (e : EntryIx) (w : Way) : Line := (s.lines[e.toNat]'e.isLt)[w]

/-- `line[e][w] <- l`, R18. -/
def State.setLine (s : State) (e : EntryIx) (w : Way) (l : Line) : State :=
  { s with lines := s.lines.set e.toNat ((s.lines[e.toNat]'e.isLt).set w l) e.isLt }

/-- `lru[e]`, R18. -/
def State.lruOf (s : State) (e : EntryIx) : LruBits := s.lru[e.toNat]'e.isLt

/-- `lru[e] <- v`, R18. -/
def State.setLru (s : State) (e : EntryIx) (v : LruBits) : State := { s with lru := s.lru.set e.toNat v e.isLt }

/-- `lookup(e, t)`, R90: the lowest-numbered valid way with the tag. -/
def State.lookup (s : State) (e : EntryIx) (t : Tag) : Option Way :=
  [0, 1, 2, 3].find? (fun w => (s.line e w).hits t)

/-- `oldestWay(e)`, R84; `none` where the lookup raises LRU_INVALID (R85). -/
def State.oldestWay (s : State) (e : EntryIx) : Option Way := oldest (s.lruOf e)

/-- `updateLru(e, w)`, R86. -/
def State.updateLru (s : State) (e : EntryIx) (w : Way) : State := s.setLru e (touched s.cfg (s.lruOf e) w)

/-- The cost of writing every pending line back, R107. -/
def State.flushCost (s : State) : Nat :=
  (s.lines.toList.map (fun ways => (ways.toList.map (writeBackCost s.cfg)).sum)).sum

/-- Every line's `valid` and `dirty` cleared, R106. -/
def State.clearLines (s : State) : State := { s with lines := mapTable (mapTable Line.flushed) s.lines }

/-! The accumulator, the previous-operation registers, the counters, the enable flag. -/

/-- `Charge(n)`, R18. -/
def State.charge (s : State) (n : Nat) : State := { s with acc := s.acc + n }

/-- `acc <- n`, R109. -/
def State.setAcc (s : State) (n : Nat) : State := { s with acc := n }

/-- `turnaround(isWrite, a)`, R91. -/
def State.turnaround (s : State) (isWrite : Bool) (a : AreaCode) : State :=
  { s.charge (turnaroundCharge s.prevWrite s.prevArea isWrite a) with prevWrite := isWrite, prevArea := a }

/-- The draw counter after a counter was incremented: it moves on when a free value was drawn (R28). -/
def State.drawsAfter (s : State) (k : Counter) : Nat := if k.unspecified s.cfg then s.draws + 1 else s.draws

/-- `cnt.reads += 1`, R18, R28. -/
def State.countRead (s : State) : State :=
  { s with cnt := { s.cnt with reads := s.cnt.reads.bump s.cfg s.draws }, draws := s.drawsAfter s.cnt.reads }

/-- `cnt.hits += 1`. -/
def State.countHit (s : State) : State :=
  { s with cnt := { s.cnt with hits := s.cnt.hits.bump s.cfg s.draws }, draws := s.drawsAfter s.cnt.hits }

/-- `cnt.misses += 1`. -/
def State.countMiss (s : State) : State :=
  { s with cnt := { s.cnt with misses := s.cnt.misses.bump s.cfg s.draws }, draws := s.drawsAfter s.cnt.misses }

/-- `cnt.disabled += 1`. -/
def State.countDisabled (s : State) : State :=
  { s with cnt := { s.cnt with disabled := s.cnt.disabled.bump s.cfg s.draws }, draws := s.drawsAfter s.cnt.disabled }

/-- All four counters cleared, R106. -/
def State.clearCounters (s : State) : State := { s with cnt := .zero }

/-- `enabled <- b`, R114. -/
def State.setEnabled (s : State) (b : Bool) : State := { s with enabled := b }

/-- The next free value's number is used up. -/
def State.drawn (s : State) : State := { s with draws := s.draws + 1 }

/-- `return v`, R18, R69. -/
def State.respond (s : State) (r : Response) : State := { s with response := r }

/-- Whether a READ or WRITE of `addr` takes the Disabled path: by its policy (R93), or because
`ENABLE_GATING = BYPASS` and `enabled = 0` (R114). -/
def State.takesDisabledPath (s : State) (addr : Addr) : Bool :=
  (s.cfg.enableGating == .bypass && !s.enabled) || cachePolicy s.cfg addr == .disabled

/-! Faults. -/

/-- `raise Fault(cause)`, R119: applied to the state before the command, so that entry is precise. -/
def State.raiseFault (s : State) (cause : FaultCause) : State :=
  { s with fault := true, faultCause := cause, response := .fault cause }

/-- A faulted block refuses a command, R120: only the response is given, with the first fault's cause. -/
def State.refuse (s : State) : State := { s with response := .fault s.faultCause }

/-- What a command's pseudocode comes to: the state it leaves, or the fault it raises. -/
abbrev Effect := Except FaultCause State

/-- ACC_OVERFLOW is detected when the total charge is known, after LRU_INVALID (R121): the accumulator the
command would leave does not fit `ACC_WIDTH` (R27; log entry 10). -/
def Effect.accChecked (r : Effect) : Effect :=
  match r with
  | .ok t => if fitsWidth t.cfg.accWidth t.acc then .ok t else .error .accOverflow
  | .error cause => .error cause

/-- The effect the block's variant gives a command, R15. -/
def State.byVariant (s : State) (timing passthrough : Effect) : Effect :=
  match s.cfg.variant with
  | .timing => timing
  | .passthrough => passthrough

/-- One command, R119 to R121: refused while the block is faulted; otherwise it completes, or its fault is
entered from the state before it. Every outcome is a next state (R130). -/
def State.run (s : State) (r : Effect) : Host.Outcome State Fault Refusal :=
  if s.fault then .next s.refuse
  else
    match r with
    | .ok t => .next t
    | .error cause => .next (s.raiseFault cause)

/-! Reset and the port. -/

/-- The reset input, R131: every piece of state at its reset value, the configuration kept (R139). What the
owner has presented is the owner's, and the free values drawn stay drawn (log entry 2). -/
def State.resetBlock (s : State) : State := { State.resetWith s.cfg with port := s.port, draws := s.draws }

/-- A command word presented before those that wait. -/
def State.present (s : State) (w : CommandWord) : State := { s with port := .command w :: s.port }

/-- The next event at the port, and the state without it. -/
def State.takeEvent (s : State) : Option (PortEvent × State) :=
  match s.port with
  | [] => none
  | ev :: rest => some (ev, { s with port := rest })

end Sys2Proof.Machine
end

