-- ==== Sys2Proof/Machine/Access.lean ====
section
/-! DEFINITION. READ and WRITE (spec/42_read_write.md), and their passthrough form
(spec/43_flush_drain_enable.md R116). -/

namespace Sys2Proof.Machine

/-- The Disabled path after step 1, R93: the area cost, the counter, a miss; nothing else. -/
def State.disabledAccess (s : State) (addr : Addr) : State :=
  ((s.charge (areaWaitStates s.cfg (area s.cfg addr))).countDisabled).respond (.access false)

/-- `updateLru(e, v)` and then `line[e][v] <- l`, R92, R102. -/
def State.install (s : State) (e : EntryIx) (v : Way) (l : Line) : State := (s.updateLru e v).setLine e v l

/-- READ of `addr` under `VARIANT = TIMING`, R92 to R95. -/
def readTiming (addr : Addr) (s₀ : State) : Effect :=
  let a := area s₀.cfg addr
  let e := index addr
  let t := tag addr
  let s := s₀.countRead
  if s.takesDisabledPath addr then .ok (s.disabledAccess addr)
  else
    let s := s.turnaround false a
    match s.lookup e t with
    | some w => .ok ((s.countHit.updateLru e w).respond (.access true))
    | none =>
      let s := s.countMiss.charge (areaWaitStates s.cfg a)
      match s.oldestWay e with
      | none => .error .lruInvalid
      | some v =>
        let s := if s.cfg.readEvictDirtyCharge then s.charge (writeBackCost s.cfg (s.line e v)) else s
        .ok ((s.install e v ⟨true, false, t⟩).respond (.access false))

/-- WRITE of `addr` under `VARIANT = TIMING`, R96 to R103. -/
def writeTiming (addr : Addr) (s₀ : State) : Effect :=
  let a := area s₀.cfg addr
  let p := cachePolicy s₀.cfg addr
  let e := index addr
  let t := tag addr
  let s := s₀.countRead
  if s.takesDisabledPath addr then .ok (s.disabledAccess addr)
  else
    let s := s.turnaround true a
    match s.lookup e t with
    | some w =>
      let s := (s.countHit.updateLru e w).setLine e w ((s.line e w).writeHit p)
      let s := if p == .writeThrough then s.charge (areaWaitStates s.cfg a) else s
      .ok (s.respond (.access true))
    | none =>
      let s := s.countMiss.charge (areaWaitStates s.cfg a)
      if p == .writeThrough then .ok (s.respond (.access false))
      else
        match s.oldestWay e with
        | none => .error .lruInvalid
        | some v =>
          let s := s.charge (writeBackCost s.cfg (s.line e v))
          .ok ((s.install e v ⟨true, true, t⟩).respond (.access false))

/-- A READ or WRITE of the passthrough variant, R116: no state changes, and the hit result is a draw. -/
def passthroughAccess (s : State) : Effect :=
  .ok (s.drawn.respond (.access (Config.passthroughHit s.draws)))

/-- READ, R92, R116. -/
def execRead (addr : Addr) (s : State) : Host.Outcome State Fault Refusal :=
  s.run (s.byVariant (readTiming addr s).accChecked (passthroughAccess s))

/-- WRITE, R96, R116. -/
def execWrite (addr : Addr) (s : State) : Host.Outcome State Fault Refusal :=
  s.run (s.byVariant (writeTiming addr s).accChecked (passthroughAccess s))

end Sys2Proof.Machine
end

