-- ==== Sys2Proof/Machine/Maintenance.lean ====
section
/-! DEFINITION. FLUSH, CONSUME and SETEN (spec/43_flush_drain_enable.md R106 to R114, R116). -/

namespace Sys2Proof.Machine

/-- FLUSH under `VARIANT = TIMING`, R106 to R108. -/
def flushTiming (s : State) : Effect := .ok (((s.charge s.flushCost).clearLines.clearCounters).respond .done)

/-- FLUSH, R106; in the passthrough variant it changes no state, R116. -/
def execFlush (s : State) : Host.Outcome State Fault Refusal :=
  s.run (s.byVariant (flushTiming s).accChecked (.ok (s.respond .done)))

/-- The accumulator drained against `n` cycles, R109 to R112. -/
def drained (n : Cycles) (s : State) : Effect :=
  .ok ((s.setAcc (accAfterDrain s.acc n)).respond (.remaining (remainingCycles s.acc n)))

/-- CONSUME, R109; the same rule in both variants (R116; log entry 12). -/
def execConsume (n : Cycles) (s : State) : Host.Outcome State Fault Refusal :=
  s.run (s.byVariant (drained n s) (drained n s))

/-- The enable flag set, R114. -/
def enableSet (b : Bool) (s : State) : Effect := .ok ((s.setEnabled b).respond .done)

/-- SETEN, R114; the same in both variants, R116. -/
def execSeten (b : Bool) (s : State) : Host.Outcome State Fault Refusal :=
  s.run (s.byVariant (enableSet b s) (enableSet b s))

end Sys2Proof.Machine
end

