-- ==== Sys2Proof/Machine/Reserved.lean ====
section
/-! DEFINITION. The reserved op codes 5, 6 and 7 (spec/43_flush_drain_enable.md R115): each raises
Fault(BAD_OP), in both variants (R116), and changes no other state. -/

namespace Sys2Proof.Machine

/-- What a reserved command comes to, R115. -/
def badOp : Effect := .error .badOp

/-- RESERVED5, R115. -/
def execReserved5 (s : State) : Host.Outcome State Fault Refusal := s.run badOp

/-- RESERVED6, R115. -/
def execReserved6 (s : State) : Host.Outcome State Fault Refusal := s.run badOp

/-- RESERVED7, R115. -/
def execReserved7 (s : State) : Host.Outcome State Fault Refusal := s.run badOp

end Sys2Proof.Machine
end

