-- ==== Sys2Proof/Machine/Dispatch.lean ====
section
/-! DEFINITION. One arm per command (spec/30_encoding.md R66). -/

namespace Sys2Proof.Machine

def exec (i : Instr) (s : State) : Host.Outcome State Fault Refusal :=
  match i with
  | .read addr => Sys2Proof.Machine.execRead addr s
  | .write addr => Sys2Proof.Machine.execWrite addr s
  | .flush => Sys2Proof.Machine.execFlush s
  | .seten b => Sys2Proof.Machine.execSeten b s
  | .consume n => Sys2Proof.Machine.execConsume n s
  | .reserved5 => Sys2Proof.Machine.execReserved5 s
  | .reserved6 => Sys2Proof.Machine.execReserved6 s
  | .reserved7 => Sys2Proof.Machine.execReserved7 s

end Sys2Proof.Machine
end

