-- ==== Sys2Proof/Machine/Step.lean ====
section
/-! DEFINITION. One step: the next event at the port (spec/00_scope.md R5, R19; log entries 1 and 2). -/

namespace Sys2Proof.Machine

/-- A step executes the next command presented, atomically (R19), or resets the block (R131). With nothing
presented nothing changes (R129). -/
def step (s : State) : Host.Outcome State Fault Refusal :=
  match s.takeEvent with
  | none => .next s
  | some (.resetInput, s') => .next s'.resetBlock
  | some (.command w, s') => exec (decode w) s'

/-- The command word presented as the very next one; the bits above `nbits` are 0 (log entries 1 and 11). -/
def State.withFetchWord (s : State) (nbits w : Nat) : State := s.present (BitVec.ofNat 67 (w % 2 ^ nbits))

end Sys2Proof.Machine
end

