-- ==== Sys2Proof/Machine/Construct.lean ====
section
/-! DEFINITION. Constructing the block from a configuration as it is loaded: policies by code, the reserved code
refused (spec/70_reset_and_hazards.md R139, spec/30_encoding.md R63). -/

namespace Sys2Proof.Machine

/-- The policies of a map of codes; `none` where it holds the reserved code 3. -/
def loadPolicyMap (codes : Vector (BitVec 2) 256) : Option (Vector Policy 256) :=
  if policyCodesWf codes then some (mapTable (fun c => (policyOfCode c).getD .disabled) codes) else none

/-- R131, R139: the block constructed with the map of codes and the rest of the configuration; `none` where the
configuration is refused and the block is not constructed. -/
def construct (codes : Vector (BitVec 2) 256) (c : Config) : Option State :=
  (loadPolicyMap codes).map (fun m => State.resetWith { c with policyMap := m })

end Sys2Proof.Machine
end

