-- ==== Sys2Proof/Safety.lean ====
section
/-! DEFINITION. What counts as a sound state, and the terms claims are stated in: when a command executes, what
it charges, what it leaves alone. -/

namespace Sys2Proof.Machine

/-! When a command executes. -/

/-- The block executes commands by the timing rules: it is not faulted (R120) and is no stub (R116). -/
abbrev State.Ready (s : State) : Prop := s.fault = false ∧ s.cfg.variant = .timing

/-- A READ or WRITE of `addr` is looked up in the cache: its policy is not Disabled (R93) and gating does not
take the Disabled path for it (R114). -/
abbrev State.Cacheable (s : State) (addr : Addr) : Prop :=
  cachePolicy s.cfg addr ≠ .disabled ∧ (s.cfg.enableGating = .none ∨ s.enabled = true)

/-- A READ or WRITE of `addr` takes the Disabled path, R93, R114. -/
abbrev State.Bypassed (s : State) (addr : Addr) : Prop :=
  cachePolicy s.cfg addr = .disabled ∨ (s.cfg.enableGating = .bypass ∧ s.enabled = false)

/-- The accumulator can take `n` more wait states within `ACC_WIDTH`, R27 (decision D7; log entry 10). -/
abbrev State.Absorbs (s : State) (n : Nat) : Prop := fitsWidth s.cfg.accWidth (s.acc + n) = true

/-! What a command charges, from R92, R96 and R91. -/

/-- The area cost of an address, R74. -/
abbrev State.areaCost (s : State) (addr : Addr) : Nat := areaWaitStates s.cfg (area s.cfg addr)

/-- The turnaround charge of an access, R91. -/
abbrev State.turn (s : State) (isWrite : Bool) (addr : Addr) : Nat :=
  if s.prevWrite = isWrite ∧ s.prevArea = area s.cfg addr then 0 else 1

/-- Whether an access consults `oldestWay`: a READ miss (R92) or a WRITE miss that allocates (R96, R100). -/
abbrev State.Allocates (s : State) (isWrite : Bool) (addr : Addr) : Prop :=
  s.Cacheable addr ∧ s.lookup (index addr) (tag addr) = none ∧
    (isWrite = true → cachePolicy s.cfg addr ≠ .writeThrough)

/-- The charge of evicting the line of the victim way of `addr`'s entry, R101. -/
def State.evictionCost (s : State) (addr : Addr) : Nat :=
  match s.oldestWay (index addr) with
  | some v => writeBackCost s.cfg (s.line (index addr) v)
  | none => 0

/-- The total charge of a READ (`isWrite = false`) or WRITE of `addr`: R92, R95, R96, R98, R99, R101. -/
def State.accessCharge (s : State) (isWrite : Bool) (addr : Addr) : Nat :=
  if s.Cacheable addr then
    s.turn isWrite addr +
      (if (s.lookup (index addr) (tag addr)).isSome then
        (if isWrite = true ∧ cachePolicy s.cfg addr = .writeThrough then s.areaCost addr else 0)
      else
        s.areaCost addr +
          (if s.Allocates isWrite addr ∧ (isWrite = true ∨ s.cfg.readEvictDirtyCharge = true) then s.evictionCost addr
          else 0))
  else s.areaCost addr

/-- The READ or WRITE of an address. -/
def accessOf (isWrite : Bool) (addr : Addr) : Instr := if isWrite then .write addr else .read addr

/-! What a command leaves alone. -/

/-- No line changed. -/
abbrev SameLines (s t : State) : Prop := ∀ e w, t.line e w = s.line e w

/-- No line but `[e][w]` changed. -/
abbrev SameLinesBut (s t : State) (e : EntryIx) (w : Way) : Prop :=
  ∀ e' w', ¬(e' = e ∧ w' = w) → t.line e' w' = s.line e' w'

/-- No LRU value changed. -/
abbrev SameLru (s t : State) : Prop := ∀ e, t.lruOf e = s.lruOf e

/-- No LRU value but `lru[e]` changed. -/
abbrev SameLruBut (s t : State) (e : EntryIx) : Prop := ∀ e', e' ≠ e → t.lruOf e' = s.lruOf e'

/-- The previous-operation registers are unchanged. -/
abbrev SamePrev (s t : State) : Prop := t.prevWrite = s.prevWrite ∧ t.prevArea = s.prevArea

/-- The registers no READ, WRITE or FLUSH writes when it does not fault, R38: the enable flag, the fault state, the
configuration; and what is presented at the port. -/
abbrev SameControl (s t : State) : Prop :=
  t.enabled = s.enabled ∧ t.fault = s.fault ∧ t.faultCause = s.faultCause ∧ t.cfg = s.cfg ∧ t.port = s.port

/-- A counter was incremented once, R28: by 1 within `COUNTER_WIDTH`, to an unspecified value past it (decision D9; log
entry 6). -/
def Counted (c : Config) (k k' : Counter) : Prop :=
  if k.past = false ∧ fitsWidth c.counterWidth (k.value + 1) = true then k' = ⟨k.value + 1, false⟩ else k'.past = true

/-- The state after a fault with `cause` was entered from `s`, R119. -/
abbrev Faulted (s : State) (cause : FaultCause) : State :=
  { s with fault := true, faultCause := cause, response := .fault cause }

/-! Sound states. -/

/-- R82: the pattern is a strict total order of the four ways. -/
abbrev TotalOrder (v : LruBits) : Prop :=
  (∀ x y : Way, x ≠ y → newer v x y ≠ newer v y x) ∧
    ∀ x y z : Way, newer v x y = true → newer v y z = true → newer v x z = true

/-- R139: the masks map the 24 valid patterns to valid patterns. -/
abbrev MasksClosed (c : Config) : Prop := ∀ v w, TotalOrder v → TotalOrder (touched c v w)

/-- The invariants of the line array: R24, R22, R61, R104. -/
structure LinesSound (s : State) : Prop where
  /-- R24: within one entry at most one valid way has a given tag. -/
  tagsUnique : ∀ e w w', (s.line e w).valid = true → (s.line e w').valid = true →
    (s.line e w).tag = (s.line e w').tag → w = w'
  /-- R22: dirty implies valid. -/
  dirtyValid : ∀ e w, (s.line e w).dirty = true → (s.line e w).valid = true
  /-- R104 (c): a line whose tag's policy is WriteThrough is never dirty. -/
  writeThroughClean : ∀ e w, cachePolicy s.cfg (lineAddr (s.line e w).tag) = .writeThrough →
    (s.line e w).dirty = false
  /-- R104 (e): no valid line holds the tag of a Disabled-policy address. -/
  noDisabledLine : ∀ e w, (s.line e w).valid = true → cachePolicy s.cfg (lineAddr (s.line e w).tag) ≠ .disabled
  /-- R61: a valid line's tag overlaps its entry's number. -/
  tagInEntry : ∀ e w, (s.line e w).valid = true → (s.line e w).tag.extractLsb 1 0 = e.extractLsb 7 6

/-- R26: every LRU value is a total order. -/
def LruSound (s : State) : Prop := ∀ e, TotalOrder (s.lruOf e)

/-- R28: a counter that never went past its width holds a value that fits it. -/
def Counter.Sound (c : Config) (k : Counter) : Prop := k.past = false → fitsWidth c.counterWidth k.value = true

/-- The registers agree with their widths (R27, R28) and with each other (R34, R118), and the stub has never charged,
counted or installed anything (R116). -/
structure RegistersSound (s : State) : Prop where
  /-- R27: the accumulator fits its width. -/
  accFits : fitsWidth s.cfg.accWidth s.acc = true
  /-- R118: the cause is NONE exactly while there is no fault. -/
  causeOfFault : s.fault = false ↔ s.faultCause = .none
  /-- R28. -/
  readsSound : s.cnt.reads.Sound s.cfg
  /-- R28. -/
  hitsSound : s.cnt.hits.Sound s.cfg
  /-- R28. -/
  missesSound : s.cnt.misses.Sound s.cfg
  /-- R28. -/
  disabledSound : s.cnt.disabled.Sound s.cfg
  /-- R116: `acc` stays 0 in the passthrough variant. -/
  stubNeverCharges : s.cfg.variant = .passthrough → s.acc = 0
  /-- R116: the counters stay 0 in the passthrough variant. -/
  stubNeverCounts : s.cfg.variant = .passthrough → s.cnt = .zero
  /-- R116: no line becomes valid in the passthrough variant. -/
  stubNeverInstalls : s.cfg.variant = .passthrough → ∀ e w, s.line e w = Line.reset

/-! Comparing states and running several commands. -/

/-- Two states that differ in the session counters at most (and in the draws their increments take). -/
abbrev SameButCounters (s s' : State) : Prop := s' = { s with cnt := s'.cnt, draws := s'.draws }

/-- Two lines that behave alike, R23: the tag of an invalid line takes part in no rule. -/
abbrev Line.Alike (l l' : Line) : Prop :=
  l'.valid = l.valid ∧ l'.dirty = l.dirty ∧ (l.valid = true → l'.tag = l.tag)

/-- Two states that differ in the tags of invalid lines at most. -/
abbrev SameButInvalidTags (s s' : State) : Prop :=
  s' = { s with lines := s'.lines } ∧ ∀ e w, (s.line e w).Alike (s'.line e w)

/-- The outcome with its state changed by `f`. -/
def mapNext (f : State → State) : Host.Outcome State Fault Refusal → Host.Outcome State Fault Refusal
  | .next t => .next (f t)
  | .fault r => .fault r
  | .refused r => .refused r

/-- The commands executed one after the other, R50. -/
def execAll : List Instr → State → Host.Outcome State Fault Refusal
  | [], s => .next s
  | i :: is, s =>
    match exec i s with
    | .next t => execAll is t
    | .fault r => .fault r
    | .refused r => .refused r

/-- The victims of `n` allocating misses in a row from LRU pattern `v`, R89; the list ends at an invalid pattern. -/
def victims (c : Config) : Nat → LruBits → List Way
  | 0, _ => []
  | n + 1, v =>
    match oldest v with
    | some w => w :: victims c n (touched c v w)
    | none => []

end Sys2Proof.Machine
end

