-- ==== Sys2Proof/Certificates/Slice0/Obligations.lean ====
section
/-! DEFINITION. The statements for the provers. Each docstring names the rule of spec/ it formalises, or the model's
own choice it speaks of. -/

open Sys2Proof Sys2Proof.Machine

/-! Encoding. -/

/-- R65, R66 (encoding decision D2): decoding the command word of a command gives the command back, with every
operand at every value. -/
def Obligations.DecodeOfEncodeIsTheCommand : Prop :=
  ∀ i : Instr, i.wf = true → decode (encode i) = i

/-- R67 (decision D27): a word's command depends on `op` and on the fields that command uses, and on nothing else. -/
def Obligations.DecodeReadsOnlyTheFieldsACommandUses : Prop :=
  ∀ w w' : CommandWord, opField w = opField w' →
    (opField w = 0 ∨ opField w = 1 → addrField w = addrField w') →
    (opField w = 3 → (argField w).getLsbD 0 = (argField w').getLsbD 0) →
    (opField w = 4 → argField w = argField w') →
    decode w = decode w'

/-- R65 to R68 and spec/opcode_table.json: every 67-bit word belongs to exactly one row of the opcode table, and the
decoder gives that row's command. -/
def Obligations.EveryWordHasExactlyOneOpcodeRow : Prop :=
  ∀ w : CommandWord, ∃ r ∈ opcodeTable, r.covers w = true ∧
    (∀ r' ∈ opcodeTable, r'.covers w = true → r' = r) ∧ (decode w).mnemonic = r.mnemonic

/-- R65, R66, R67: some words written out from the encoding (programs P2, P3, P4 of 95_test_vectors.md) decode to their
commands; a number wider than 67 bits is rejected by name (log entry 11). -/
def Obligations.WrittenOutCommandWordsDecode : Prop :=
  decode 0x080000100DEADBEEF = .read 0x80000100 ∧
  decode 0x10800005000000000 = .write 0x08000050 ∧
  decode 0x20000000000000000 = .flush ∧
  decode 0x3FFFFFFFF00000001 = .seten true ∧
  decode 0x300000000FFFFFFFE = .seten false ∧
  decode 0x40000000000000064 = .consume 100 ∧
  decode 0x50000100000000000 = .reserved5 ∧
  decode 0x70000123400000000 = .reserved7 ∧
  decodeNat 0x80000000000000000 = .error .widerThanACommandWord

/-- R70 (decision D2): the assembler line of a command is well-formed and assembles to the command. -/
def Obligations.AssemblerLinesAssembleToTheirCommand : Prop :=
  ∀ (i : Instr) (l : AsmLine), i.toAsm = some l → l.wf = true ∧ l.assemble = some i

/-! Construction and reset. -/

/-- R132 to R138 (decisions D5 to D10 and D21): every register holds its reset value, under every configuration. -/
def Obligations.ResetGivesEveryRegisterItsResetValue : Prop :=
  ∀ c : Config, let s := State.resetWith c
    (∀ e w, s.line e w = ⟨false, false, 0⟩) ∧ (∀ e, s.lruOf e = 0x00) ∧ s.acc = 0 ∧
    s.prevWrite = c.initPrevWrite ∧ s.prevArea = c.initPrevArea ∧
    s.cnt.reads.value = 0 ∧ s.cnt.hits.value = 0 ∧ s.cnt.misses.value = 0 ∧ s.cnt.disabled.value = 0 ∧
    s.enabled = c.resetEnabled ∧ s.fault = false ∧ s.faultCause.code = 0 ∧ s.cfg = c

/-- R139, R63 (decisions D11, D28): construction is refused exactly when the policy map holds the reserved code 3;
otherwise the block is the reset block whose policy map has the codes that were loaded. -/
def Obligations.ConstructionRefusesExactlyReservedPolicyCodes : Prop :=
  ∀ (codes : Vector (BitVec 2) 256) (c : Config),
    (construct codes c = none ↔ ∃ b : Fin 256, codes[b] = 3) ∧
    ∀ s, construct codes c = some s → ∃ m : Vector Policy 256,
      (∀ b : Fin 256, policyCode m[b] = codes[b]) ∧ s = State.resetWith { c with policyMap := m }

/-! Classification. -/

/-- R76: `cachePolicy(addr) = POLICY_MAP[addr[31:24]]`; in the default profile the map is the one of five ranges of the
top byte. -/
def Obligations.CachePolicyIsThePolicyOfTheTopByte : Prop :=
  (∀ (c : Config) (addr : Addr) (h : (addr.extractLsb 31 24).toNat < 256),
    cachePolicy c addr = c.policyMap[(addr.extractLsb 31 24).toNat]) ∧
  ∀ addr : Addr, cachePolicy defaultConfig addr =
    if addr < 0x80000000#32 then .writeBack
    else if addr < 0xA0000000#32 then .writeThrough
    else if addr < 0xC0000000#32 then .disabled
    else if addr < 0xE0000000#32 then .writeBack
    else .disabled

/-- R72: the bit-level form of `area`, under every mask. -/
def Obligations.AreaHasItsBitLevelForm : Prop :=
  ∀ (c : Config) (addr : Addr), let a := addr &&& c.areaAddrMask
    area c addr =
      if a.extractLsb 31 29 = 0b000#3 ∧ a.extractLsb 28 26 ≠ 0b001#3 ∧ a.extractLsb 28 26 ≠ 0b111#3 then
        a.extractLsb 28 26
      else 7

/-- R80 (decision D16): the line address of an address's tag has the address's own area and policy, under every
configuration, and agrees with the address in bits [31:10]. -/
def Obligations.LineAddressKeepsAreaAndPolicy : Prop :=
  ∀ (c : Config) (addr : Addr), area c (lineAddr (tag addr)) = area c addr ∧
    cachePolicy c (lineAddr (tag addr)) = cachePolicy c addr ∧
    (lineAddr (tag addr)).extractLsb 31 10 = addr.extractLsb 31 10 ∧
    (lineAddr (tag addr)).extractLsb 9 0 = 0#10

/-- R73, R74: the boundaries of the default area map and the default area costs. -/
def Obligations.DefaultAreaBoundariesAndCosts : Prop :=
  [0x00000000, 0x03FFFFFF, 0x04000000, 0x07FFFFFF, 0x08000000, 0x0BFFFFFF, 0x0C000000, 0x0FFFFFFF, 0x10000000,
    0x13FFFFFF, 0x14000000, 0x17FFFFFF, 0x18000000, 0x1BFFFFFF, 0x1C000000, 0xFFFFFFFF].map (area defaultConfig) =
    [0, 0, 7, 7, 2, 2, 3, 3, 4, 4, 5, 5, 6, 6, 7, 7] ∧
  [0, 1, 2, 3, 4, 5, 6, 7].map (areaWaitStates defaultConfig) = [10, 0, 2, 2, 3, 10, 10, 0]

/-- R78: in the default profile an address with a non-zero area cost is a WriteBack address. -/
def Obligations.DefaultAreaCostsFallOnWriteBackAddressesOnly : Prop :=
  ∀ addr : Addr, areaWaitStates defaultConfig (area defaultConfig addr) ≠ 0 →
    cachePolicy defaultConfig addr = .writeBack

/-- R56, R43: two addresses that differ only in bits [3:0] behave identically in READ and WRITE, in every state. -/
def Obligations.OffsetBitsChangeNoAccess : Prop :=
  ∀ (s : State) (a a' : Addr), a.extractLsb 31 4 = a'.extractLsb 31 4 →
    exec (.read a) s = exec (.read a') s ∧ exec (.write a) s = exec (.write a') s

/-! The hit scan and the LRU encoder. -/

/-- R90 (decision D17): the hit way is the lowest-numbered valid way with the tag; there is none when no way is valid with
the tag. -/
def Obligations.LookupFindsTheLowestValidMatch : Prop :=
  ∀ (s : State) (e : EntryIx) (t : Tag),
    (∀ w : Way, s.lookup e t = some w ↔
      ((s.line e w).valid = true ∧ (s.line e w).tag = t ∧
        ∀ w' : Way, w' < w → ¬((s.line e w').valid = true ∧ (s.line e w').tag = t))) ∧
    (s.lookup e t = none ↔ ∀ w : Way, ¬((s.line e w).valid = true ∧ (s.line e w).tag = t))

/-- R82, R83: `OLDEST` gives a way exactly for the patterns that are total orders, and that way is the one every other
way is newer than. -/
def Obligations.OldestTableHoldsTheLeastRecentWay : Prop :=
  ∀ v : LruBits, (oldest v = none ↔ ¬TotalOrder v) ∧
    ∀ w : Way, oldest v = some w → ∀ x : Way, x ≠ w → newer v x w = true

/-- R86 (the default masks rest on the bit assignment of decision D4): `updateLru(e, w)` writes the masked value whatever the
old one is, and nothing else; with the default masks it makes `w` the newest way and keeps the order of the other three. -/
def Obligations.UpdateLruMakesTheWayNewestAndKeepsTheRest : Prop :=
  ∀ (s : State) (e : EntryIx) (w : Way), let t := s.updateLru e w
    t.lruOf e = (s.lruOf e &&& s.cfg.lruAnd[w]) ||| s.cfg.lruOr[w] ∧ SameLruBut s t e ∧ t = { s with lru := t.lru } ∧
    (s.cfg.lruAnd = defaultLruAnd → s.cfg.lruOr = defaultLruOr →
      (∀ x : Way, x ≠ w → newer (t.lruOf e) w x = true) ∧
      ∀ x y : Way, x ≠ w → y ≠ w → newer (t.lruOf e) x y = newer (s.lruOf e) x y)

/-- R89: from a valid pattern, under the default masks, four allocating misses in a row use four distinct ways; from
the reset pattern they use ways 3, 2, 1, 0. -/
def Obligations.FourAllocationsUseFourDistinctWays : Prop :=
  (∀ v : LruBits, TotalOrder v →
    (victims defaultConfig 4 v).length = 4 ∧ (victims defaultConfig 4 v).Nodup) ∧
  victims defaultConfig 4 0x00 = [3, 2, 1, 0]

/-! READ and WRITE. What a counter holds past `COUNTER_WIDTH` (in `Counted`) rests on decision D9 and log entry 6; that the
accumulator must absorb the whole charge (`Absorbs`) on decisions D7 and D21 and log entry 10. -/

/-- R93, R114 (decisions D10, D18): on the Disabled path a READ or WRITE charges the area cost, counts the access and the
Disabled access, answers a miss, and changes nothing else. -/
def Obligations.DisabledPathChargesTheAreaCostAndSkipsTheCache : Prop :=
  ∀ (s : State) (isWrite : Bool) (addr : Addr), s.Ready → s.Bypassed addr → s.Absorbs (s.areaCost addr) →
    ∃ t, exec (accessOf isWrite addr) s = .next t ∧
      t.response = .access false ∧ t.acc = s.acc + s.areaCost addr ∧
      Counted s.cfg s.cnt.reads t.cnt.reads ∧ Counted s.cfg s.cnt.disabled t.cnt.disabled ∧
      t.cnt.hits = s.cnt.hits ∧ t.cnt.misses = s.cnt.misses ∧
      SameLines s t ∧ SameLru s t ∧ SamePrev s t ∧ SameControl s t

/-- R92: a READ that hits charges turnaround alone, records itself, counts a hit and marks the way most recently used;
no line changes. -/
def Obligations.ReadHitChargesTurnaroundAndRefreshesTheWay : Prop :=
  ∀ (s : State) (addr : Addr) (w : Way), s.Ready → s.Cacheable addr →
    s.lookup (index addr) (tag addr) = some w → s.Absorbs (s.turn false addr) →
    ∃ t, exec (.read addr) s = .next t ∧
      t.response = .access true ∧ t.acc = s.acc + s.turn false addr ∧
      t.prevWrite = false ∧ t.prevArea = area s.cfg addr ∧
      Counted s.cfg s.cnt.reads t.cnt.reads ∧ Counted s.cfg s.cnt.hits t.cnt.hits ∧
      t.cnt.misses = s.cnt.misses ∧ t.cnt.disabled = s.cnt.disabled ∧
      t.lruOf (index addr) = touched s.cfg (s.lruOf (index addr)) w ∧ SameLruBut s t (index addr) ∧
      SameLines s t ∧ SameControl s t

/-- R92, R94, R95 (parameter D15): a READ miss charges turnaround and the area cost, and the write-back of a valid dirty
victim only under `READ_EVICT_DIRTY_CHARGE`; it installs a clean line in the way `oldestWay` gives, whichever ways are
valid. -/
def Obligations.ReadMissInstallsACleanLineInTheOldestWay : Prop :=
  ∀ (s : State) (addr : Addr) (v : Way), s.Ready → s.Cacheable addr →
    s.lookup (index addr) (tag addr) = none → s.oldestWay (index addr) = some v →
    let evicted := if s.cfg.readEvictDirtyCharge = true ∧ (s.line (index addr) v).valid = true ∧
        (s.line (index addr) v).dirty = true then s.areaCost (lineAddr (s.line (index addr) v).tag) else 0
    s.Absorbs (s.turn false addr + s.areaCost addr + evicted) →
    ∃ t, exec (.read addr) s = .next t ∧
      t.response = .access false ∧ t.acc = s.acc + (s.turn false addr + s.areaCost addr + evicted) ∧
      t.prevWrite = false ∧ t.prevArea = area s.cfg addr ∧
      Counted s.cfg s.cnt.reads t.cnt.reads ∧ Counted s.cfg s.cnt.misses t.cnt.misses ∧
      t.cnt.hits = s.cnt.hits ∧ t.cnt.disabled = s.cnt.disabled ∧
      t.lruOf (index addr) = touched s.cfg (s.lruOf (index addr)) v ∧ SameLruBut s t (index addr) ∧
      t.line (index addr) v = ⟨true, false, addr.extractLsb 31 10⟩ ∧ SameLinesBut s t (index addr) v ∧
      SameControl s t

/-- R98, with R96 and R97: a WRITE that hits charges turnaround, and the area cost on top exactly under WriteThrough; the
line becomes dirty exactly under WriteBack. -/
def Obligations.WriteHitPaysTheAreaCostExactlyUnderWriteThrough : Prop :=
  ∀ (s : State) (addr : Addr) (w : Way), s.Ready → s.Cacheable addr →
    s.lookup (index addr) (tag addr) = some w →
    let through := if cachePolicy s.cfg addr = .writeThrough then s.areaCost addr else 0
    s.Absorbs (s.turn true addr + through) →
    ∃ t, exec (.write addr) s = .next t ∧
      t.response = .access true ∧ t.acc = s.acc + (s.turn true addr + through) ∧
      t.prevWrite = true ∧ t.prevArea = area s.cfg addr ∧
      Counted s.cfg s.cnt.reads t.cnt.reads ∧ Counted s.cfg s.cnt.hits t.cnt.hits ∧
      t.cnt.misses = s.cnt.misses ∧ t.cnt.disabled = s.cnt.disabled ∧
      t.lruOf (index addr) = touched s.cfg (s.lruOf (index addr)) w ∧ SameLruBut s t (index addr) ∧
      (t.line (index addr) w).valid = true ∧ (t.line (index addr) w).tag = (s.line (index addr) w).tag ∧
      ((t.line (index addr) w).dirty = true ↔ cachePolicy s.cfg addr = .writeBack) ∧
      SameLinesBut s t (index addr) w ∧ SameControl s t

/-- R99, R100 (decision D14): a WRITE miss under WriteThrough charges turnaround and the area cost, counts a miss, and
changes no line and no LRU value, whatever the LRU value is. -/
def Obligations.WriteThroughMissBypassesTheCache : Prop :=
  ∀ (s : State) (addr : Addr), s.Ready → s.Cacheable addr → cachePolicy s.cfg addr = .writeThrough →
    s.lookup (index addr) (tag addr) = none → s.Absorbs (s.turn true addr + s.areaCost addr) →
    ∃ t, exec (.write addr) s = .next t ∧
      t.response = .access false ∧ t.acc = s.acc + (s.turn true addr + s.areaCost addr) ∧
      t.prevWrite = true ∧ t.prevArea = area s.cfg addr ∧
      Counted s.cfg s.cnt.reads t.cnt.reads ∧ Counted s.cfg s.cnt.misses t.cnt.misses ∧
      t.cnt.hits = s.cnt.hits ∧ t.cnt.disabled = s.cnt.disabled ∧
      SameLines s t ∧ SameLru s t ∧ SameControl s t

/-- R101, R102, with R96: a WRITE miss under WriteBack charges turnaround, the area cost and, where the victim is valid and
dirty, the cost of the victim's original area; it installs a valid dirty line with the address's tag. -/
def Obligations.WriteBackMissChargesTheVictimsAreaAndInstallsADirtyLine : Prop :=
  ∀ (s : State) (addr : Addr) (v : Way), s.Ready → s.Cacheable addr → cachePolicy s.cfg addr = .writeBack →
    s.lookup (index addr) (tag addr) = none → s.oldestWay (index addr) = some v →
    let evicted := if (s.line (index addr) v).valid = true ∧ (s.line (index addr) v).dirty = true then
        s.areaCost (lineAddr (s.line (index addr) v).tag) else 0
    s.Absorbs (s.turn true addr + s.areaCost addr + evicted) →
    ∃ t, exec (.write addr) s = .next t ∧
      t.response = .access false ∧ t.acc = s.acc + (s.turn true addr + s.areaCost addr + evicted) ∧
      t.prevWrite = true ∧ t.prevArea = area s.cfg addr ∧
      Counted s.cfg s.cnt.reads t.cnt.reads ∧ Counted s.cfg s.cnt.misses t.cnt.misses ∧
      t.cnt.hits = s.cnt.hits ∧ t.cnt.disabled = s.cnt.disabled ∧
      t.lruOf (index addr) = touched s.cfg (s.lruOf (index addr)) v ∧ SameLruBut s t (index addr) ∧
      t.line (index addr) v = ⟨true, true, addr.extractLsb 31 10⟩ ∧ SameLinesBut s t (index addr) v ∧
      SameControl s t

/-- R91: the turnaround step charges 1 exactly when the direction or the area changes, and records the access. -/
def Obligations.TurnaroundChargesOneForAChangeAndRecordsTheAccess : Prop :=
  ∀ (s : State) (isWrite : Bool) (a : AreaCode), s.turnaround isWrite a =
    { s with acc := if s.prevWrite ≠ isWrite ∨ s.prevArea ≠ a then s.acc + 1 else s.acc
             prevWrite := isWrite
             prevArea := a }

/-- R85, R118, R119, R121 (decision D21): a READ miss or an allocating WRITE miss in an entry whose LRU value is no total
order raises LRU_INVALID, whatever its charge would be, and changes nothing but the fault state and the response. -/
def Obligations.AllocatingMissOnAnInvalidPatternRaisesLruInvalid : Prop :=
  ∀ (s : State) (isWrite : Bool) (addr : Addr), s.Ready → s.Allocates isWrite addr →
    ¬TotalOrder (s.lruOf (index addr)) → exec (accessOf isWrite addr) s = .next (Faulted s .lruInvalid)

/-- R27, R118, R119, R121 (decisions D7, D21; log entry 10): a READ, WRITE or FLUSH whose total charge does not fit the
accumulator (and whose victim, where it allocates, can be chosen) raises ACC_OVERFLOW and changes nothing but the fault
state and the response. -/
def Obligations.ChargePastTheAccumulatorWidthRaisesAccOverflow : Prop :=
  (∀ (s : State) (isWrite : Bool) (addr : Addr), s.Ready →
    (s.Allocates isWrite addr → TotalOrder (s.lruOf (index addr))) →
    ¬s.Absorbs (s.accessCharge isWrite addr) →
    exec (accessOf isWrite addr) s = .next (Faulted s .accOverflow)) ∧
  ∀ s : State, s.Ready → ¬s.Absorbs s.flushCost → exec .flush s = .next (Faulted s .accOverflow)

/-- R92, R96 and R27: a READ or WRITE whose victim can be chosen and whose total charge fits completes without a fault and
adds exactly that charge to the accumulator. -/
def Obligations.AccessCompletesAndAddsItsTotalCharge : Prop :=
  ∀ (s : State) (isWrite : Bool) (addr : Addr), s.Ready →
    (s.Allocates isWrite addr → TotalOrder (s.lruOf (index addr))) → s.Absorbs (s.accessCharge isWrite addr) →
    ∃ t, exec (accessOf isWrite addr) s = .next t ∧ t.fault = false ∧ t.acc = s.acc + s.accessCharge isWrite addr ∧
      t.response = .access (decide (s.Cacheable addr) && (s.lookup (index addr) (tag addr)).isSome)

/-- R105: what one READ or WRITE can add to the accumulator, `M` a bound of the area costs. -/
def Obligations.AccessChargesAreBounded : Prop :=
  ∀ (s t : State) (isWrite : Bool) (addr : Addr) (M : Nat), s.Ready →
    (∀ a, areaWaitStates s.cfg a ≤ M) → exec (accessOf isWrite addr) s = .next t →
    (s.Bypassed addr → t.acc ≤ s.acc + M) ∧
    (isWrite = false → s.cfg.readEvictDirtyCharge = false → t.acc ≤ s.acc + (1 + M)) ∧
    t.acc ≤ s.acc + (1 + 2 * M) ∧
    (t.response = .access true → (isWrite = false ∨ cachePolicy s.cfg addr = .writeBack) → t.acc ≤ s.acc + 1)

/-- R38, R92, R93, R96, R97, R100, R102, R114, R116, R119 (decisions D10, D14, D21, D23): what a READ or WRITE may change,
whatever its outcome. The only line is that of the way `lookup` gives, where a WRITE hits, or of the way `oldestWay` gives, where a miss
allocates; the only LRU value is that of the address's entry, where the access hits or allocates, and it becomes the masked
value of that way. So a READ hit, a Disabled or bypassed access, a write-through miss, a faulted or refused command and a
passthrough access change no line, and all of these but the READ hit change no LRU value. The enable flag, the configuration
and what is presented never change. -/
def Obligations.AccessTouchesOneLineOfItsEntryAtMost : Prop :=
  ∀ (s t : State) (isWrite : Bool) (addr : Addr), exec (accessOf isWrite addr) s = .next t →
    (∀ e w, t.line e w ≠ s.line e w →
      s.Ready ∧ t.fault = false ∧ s.Cacheable addr ∧ e = index addr ∧
        ((isWrite = true ∧ s.lookup (index addr) (tag addr) = some w) ∨
          (s.Allocates isWrite addr ∧ s.oldestWay (index addr) = some w))) ∧
    (∀ e, t.lruOf e ≠ s.lruOf e →
      s.Ready ∧ t.fault = false ∧ s.Cacheable addr ∧ e = index addr ∧
        ((∃ w, s.lookup (index addr) (tag addr) = some w ∧ t.lruOf e = touched s.cfg (s.lruOf e) w) ∨
          (s.Allocates isWrite addr ∧
            ∃ v, s.oldestWay (index addr) = some v ∧ t.lruOf e = touched s.cfg (s.lruOf e) v))) ∧
    t.enabled = s.enabled ∧ t.cfg = s.cfg ∧ t.port = s.port

/-- R92, corner case 5: a READ that completed on the cacheable path is followed by a READ of the same address that hits and
charges nothing. -/
def Obligations.RepeatedReadHitsForFree : Prop :=
  ∀ (s t : State) (addr : Addr), s.Ready → s.Cacheable addr → exec (.read addr) s = .next t → t.fault = false →
    ∃ u, exec (.read addr) t = .next u ∧ u.response = .access true ∧ u.acc = t.acc

/-- R94: a miss that allocates always goes to the way `oldestWay` gives, whichever ways are valid; so the first one of an entry
after a FLUSH goes to the way that was least recently used before the FLUSH, though every way is invalid. -/
def Obligations.MissVictimIsAlwaysTheOldestWay : Prop :=
  (∀ (s t : State) (isWrite : Bool) (addr : Addr) (v : Way), s.Ready → s.Allocates isWrite addr →
    s.oldestWay (index addr) = some v → exec (accessOf isWrite addr) s = .next t → t.fault = false →
    t.line (index addr) v = ⟨true, isWrite, addr.extractLsb 31 10⟩ ∧ SameLinesBut s t (index addr) v) ∧
  ∀ (s t : State) (isWrite : Bool) (addr : Addr) (v : Way), s.Ready → s.Cacheable addr →
    (isWrite = true → cachePolicy s.cfg addr = .writeBack) → s.oldestWay (index addr) = some v →
    exec .flush s = .next t → t.fault = false → t.Absorbs (t.turn isWrite addr + t.areaCost addr) →
    ∃ u, exec (accessOf isWrite addr) t = .next u ∧ u.response = .access false ∧
      u.line (index addr) v = ⟨true, isWrite, addr.extractLsb 31 10⟩ ∧ SameLinesBut t u (index addr) v

/-! FLUSH, CONSUME, SETEN, the reserved op codes. -/

/-- R107, with R106 and R108 (decision D22): FLUSH charges the sum over all valid dirty lines of their original areas' costs,
invalidates every line keeping its tag, clears the counters, and changes nothing else. -/
def Obligations.FlushChargesTheSumOverDirtyLinesAndInvalidatesAll : Prop :=
  ∀ s : State, s.Ready →
    let total := ∑ e : EntryIx, ∑ w : Way, if (s.line e w).valid = true ∧ (s.line e w).dirty = true then
        s.areaCost (lineAddr (s.line e w).tag) else 0
    s.Absorbs total →
    ∃ t, exec .flush s = .next t ∧ t.response = .done ∧ t.acc = s.acc + total ∧
      (∀ e w, t.line e w = ⟨false, false, (s.line e w).tag⟩) ∧ SameLru s t ∧ SamePrev s t ∧ SameControl s t ∧
      t.cnt.reads.value = 0 ∧ t.cnt.hits.value = 0 ∧ t.cnt.misses.value = 0 ∧ t.cnt.disabled.value = 0

/-- R54, R106 (corner case 2): after a FLUSH nothing hits, and a second FLUSH in a row charges nothing and changes
nothing. -/
def Obligations.FlushedCacheHoldsNothing : Prop :=
  ∀ s t : State, s.Ready → exec .flush s = .next t → t.fault = false →
    (∀ e tg, t.lookup e tg = none) ∧ exec .flush t = .next t

/-- R110: with an empty accumulator CONSUME returns its argument and changes nothing. -/
def Obligations.ConsumeOfAnEmptyAccumulatorReturnsItsArgument : Prop :=
  ∀ (s : State) (n : Cycles), s.fault = false → s.acc = 0 →
    exec (.consume n) s = .next { s with response := .remaining n }

/-- R111, R12: with at least two cycles for each pending wait state, CONSUME empties the accumulator and returns what is
left, exactly. -/
def Obligations.ConsumeWithEnoughCyclesDrainsFully : Prop :=
  ∀ (s : State) (n : Cycles), s.fault = false → 0 < s.acc → 2 * s.acc ≤ n.toNat →
    ∃ r : Cycles, r.toNat = n.toNat - 2 * s.acc ∧
      exec (.consume n) s = .next { s with acc := 0, response := .remaining r }

/-- R112: with fewer, CONSUME drains half the cycles rounded down, returns 0, and leaves at least 1 pending. -/
def Obligations.ConsumeWithTooFewCyclesDrainsPartly : Prop :=
  ∀ (s : State) (n : Cycles), s.fault = false → 0 < s.acc → n.toNat < 2 * s.acc →
    exec (.consume n) s = .next { s with acc := s.acc - n.toNat / 2, response := .remaining 0 } ∧
    1 ≤ s.acc - n.toNat / 2

/-- R113, R143: CONSUMEs of two cycles or more each empty the accumulator in at most as many calls as wait states are
pending; CONSUMEs of one cycle or none never reduce it. -/
def Obligations.RepeatedConsumeEmptiesTheAccumulator : Prop :=
  ∀ (s : State) (ns : List Cycles), s.fault = false →
    ((∀ n ∈ ns, 2 ≤ n.toNat) → s.acc ≤ ns.length →
      ∃ t, execAll (ns.map .consume) s = .next t ∧ t.acc = 0) ∧
    ((∀ n ∈ ns, n.toNat ≤ 1) → ∃ t, execAll (ns.map .consume) s = .next t ∧ t.acc = s.acc)

/-- R114, R116: SETEN stores its argument in the enable flag and changes nothing else, in both variants. -/
def Obligations.SetenStoresItsArgument : Prop :=
  ∀ (s : State) (b : Bool), s.fault = false → exec (.seten b) s = .next { s with enabled := b, response := .done }

/-- R30, R114 (corner case 1): with `ENABLE_GATING = NONE` no command but SETEN reads or writes the enable flag. -/
def Obligations.EnableFlagIsUnreadWithoutGating : Prop :=
  ∀ (i : Instr) (s : State) (b : Bool), s.cfg.enableGating = .none → (∀ b', i ≠ .seten b') →
    exec i { s with enabled := b } = mapNext (fun t => { t with enabled := b }) (exec i s)

/-- R115, R118, R119, R116 (decisions D3, D21): the reserved op codes raise BAD_OP in both variants, change nothing but the fault
state and the response, and the cause's code is 3. -/
def Obligations.ReservedOpCodesRaiseBadOp : Prop :=
  ∀ (i : Instr) (s : State), i = .reserved5 ∨ i = .reserved6 ∨ i = .reserved7 → s.fault = false →
    exec i s = .next (Faulted s .badOp) ∧ (Faulted s .badOp).faultCause.code = 3

/-- R116 (decision D23): in the passthrough variant every command of the interface completes; READ, WRITE and FLUSH change no
state, SETEN writes the enable flag, and CONSUME returns its argument. The hit result is whatever value was drawn; `draws` is
the model's own count of the draws (log entry 5). -/
def Obligations.PassthroughCommandsChangeNothing : Prop :=
  ∀ s : State, s.fault = false → s.cfg.variant = .passthrough → s.acc = 0 →
    (∀ isWrite addr, ∃ hit, exec (accessOf isWrite addr) s =
      .next { s with response := .access hit, draws := s.draws + 1 }) ∧
    exec .flush s = .next { s with response := .done } ∧
    (∀ b, exec (.seten b) s = .next { s with enabled := b, response := .done }) ∧
    ∀ n, exec (.consume n) s = .next { s with response := .remaining n }

/-! Faults and the whole machine. -/

/-- R120 (decision D21): a faulted block refuses every command: only the response is given, with the first fault's cause. -/
def Obligations.FaultedBlockRefusesEveryCommand : Prop :=
  ∀ (i : Instr) (s : State), s.fault = true → exec i s = .next { s with response := .fault s.faultCause }

/-- R117: in a state whose LRU values are total orders, with an unbounded accumulator, no command of the interface
faults. -/
def Obligations.NoFaultWithSoundLruAndUnboundedAccumulator : Prop :=
  ∀ (i : Instr) (s : State), LruSound s → s.cfg.accWidth = none → s.fault = false →
    i ≠ .reserved5 → i ≠ .reserved6 → i ≠ .reserved7 →
    ∃ t, exec i s = .next t ∧ t.fault = false ∧ t.faultCause = s.faultCause ∧ t.response.rspFault = false

/-- R130: every step completes with a next state. -/
def Obligations.EveryStepCompletes : Prop :=
  ∀ s : State, ∃ t, step s = .next t

/-- R120, R131 (decisions D21, D28; log entry 2): only the reset input leaves the fault state, and it leaves every register at its
reset value and the configuration as it was. -/
def Obligations.OnlyResetLeavesTheFaultState : Prop :=
  (∀ s t : State, s.fault = true → step s = .next t → t.fault = false → ∃ rest, s.port = .resetInput :: rest) ∧
  ∀ (s : State) (rest : List PortEvent), s.port = .resetInput :: rest →
    step s = .next { State.resetWith s.cfg with port := rest, draws := s.draws }

/-- R27, R125: only CONSUME lowers the accumulator, by half its cycles at most; only READ, WRITE and FLUSH raise it. -/
def Obligations.OnlyConsumeLowersTheAccumulator : Prop :=
  ∀ (i : Instr) (s t : State), exec i s = .next t →
    (t.acc < s.acc → ∃ n : Cycles, i = .consume n ∧ s.acc - t.acc ≤ n.toNat / 2) ∧
    (s.acc < t.acc → i = .flush ∨ ∃ isWrite addr, i = accessOf isWrite addr)

/-- R28: only READ, WRITE and FLUSH write the counters, and only FLUSH lowers one that is within its width. -/
def Obligations.OnlyAccessesCountAndOnlyFlushClears : Prop :=
  ∀ (i : Instr) (s t : State), exec i s = .next t →
    (t.cnt ≠ s.cnt → i = .flush ∨ ∃ isWrite addr, i = accessOf isWrite addr) ∧
    (i ≠ .flush →
      (t.cnt.reads.past = false → s.cnt.reads.value ≤ t.cnt.reads.value) ∧
      (t.cnt.hits.past = false → s.cnt.hits.value ≤ t.cnt.hits.value) ∧
      (t.cnt.misses.past = false → s.cnt.misses.value ≤ t.cnt.misses.value) ∧
      (t.cnt.disabled.past = false → s.cnt.disabled.value ≤ t.cnt.disabled.value))

/-- R39, R139: no step changes the configuration. -/
def Obligations.NoStepChangesTheConfiguration : Prop :=
  ∀ s t : State, step s = .next t → t.cfg = s.cfg

/-- R28, R37: under the timing rules the counters influence nothing: from two states that differ in the counters at most (and in
the model's draw count), every step gives two such states, with equal responses. -/
def Obligations.CountersInfluenceNothing : Prop :=
  ∀ s s' t : State, s.cfg.variant = .timing → SameButCounters s s' → step s = .next t →
    ∃ t', step s' = .next t' ∧ SameButCounters t t'

/-- R23: the tags of invalid lines influence nothing: from two states that differ in such tags at most, every step gives two
such states, with equal responses. -/
def Obligations.TagsOfInvalidLinesInfluenceNothing : Prop :=
  ∀ s s' t : State, SameButInvalidTags s s' → step s = .next t →
    ∃ t', step s' = .next t' ∧ SameButInvalidTags t t'

/-- R5, R19, R50, R129 (the port is the model's, log entry 1): a step executes the command whose word was presented first, on the
state without it; with nothing presented nothing changes. -/
def Obligations.StepExecutesTheDecodedCommand : Prop :=
  (∀ (s : State) (w : CommandWord) (rest : List PortEvent), s.port = .command w :: rest →
    step s = exec (decode w) { s with port := rest }) ∧
  (∀ s : State, s.port = [] → step s = .next s) ∧
  ∀ (s : State) (nbits w : Nat) (i : Instr), decodeTableWord nbits w = some i →
    step (s.withFetchWord nbits w) = exec i s

/-! Invariants. -/

/-- R24, R22, R61, R104: every step keeps the invariants of the line array, from every state that meets them and under every
configuration. -/
def Obligations.EveryStepKeepsTheLinesSound : Prop :=
  ∀ s t : State, LinesSound s → step s = .next t → LinesSound t

/-- R26, R87: every step keeps every LRU value a total order, under masks that map total orders to total orders. -/
def Obligations.EveryStepKeepsTheLruSound : Prop :=
  ∀ s t : State, MasksClosed s.cfg → LruSound s → step s = .next t → LruSound t ∧ MasksClosed t.cfg

/-- R87, R88 (bit assignment D4): the default masks map total orders to total orders, and follow from the pairs of R64. -/
def Obligations.DefaultMasksAreClosedAndFollowThePairs : Prop :=
  MasksClosed defaultConfig ∧
  ∀ (w : Way) (i : Fin 6),
    (defaultConfig.lruOr[w].getLsbD i = decide ((lruPairs[i.val]'i.isLt).1 = w)) ∧
    (defaultConfig.lruAnd[w].getLsbD i =
      decide ((lruPairs[i.val]'i.isLt).1 ≠ w ∧ (lruPairs[i.val]'i.isLt).2 ≠ w))

/-- R27, R28, R34, R116, R118: every step keeps the registers within their widths and agreeing with each other. -/
def Obligations.EveryStepKeepsTheRegistersSound : Prop :=
  ∀ s t : State, RegistersSound s → step s = .next t → RegistersSound t

/-- R24, R26, R22, R104, R132 to R138: the reset state meets every invariant, under every configuration. -/
def Obligations.ResetMeetsTheInvariants : Prop :=
  ∀ c : Config, LinesSound (State.resetWith c) ∧ LruSound (State.resetWith c) ∧ RegistersSound (State.resetWith c)
end

