-- ==== Sys2Proof/Laws/State.lean ====
section
/-! SUPPORT. One lemma per field per update of the state, and for the accessors over the arrays, each true by
definition. -/

namespace Sys2Proof.Machine

variable (s : State)

@[simp] theorem State.setLine_lru (e : EntryIx) (w : Way) (l : Line) : (s.setLine e w l).lru = s.lru := rfl
@[simp] theorem State.setLine_acc (e : EntryIx) (w : Way) (l : Line) : (s.setLine e w l).acc = s.acc := rfl
@[simp] theorem State.setLine_prevWrite (e : EntryIx) (w : Way) (l : Line) : (s.setLine e w l).prevWrite = s.prevWrite := rfl
@[simp] theorem State.setLine_prevArea (e : EntryIx) (w : Way) (l : Line) : (s.setLine e w l).prevArea = s.prevArea := rfl
@[simp] theorem State.setLine_cnt (e : EntryIx) (w : Way) (l : Line) : (s.setLine e w l).cnt = s.cnt := rfl
@[simp] theorem State.setLine_enabled (e : EntryIx) (w : Way) (l : Line) : (s.setLine e w l).enabled = s.enabled := rfl
@[simp] theorem State.setLine_fault (e : EntryIx) (w : Way) (l : Line) : (s.setLine e w l).fault = s.fault := rfl
@[simp] theorem State.setLine_faultCause (e : EntryIx) (w : Way) (l : Line) : (s.setLine e w l).faultCause = s.faultCause := rfl
@[simp] theorem State.setLine_cfg (e : EntryIx) (w : Way) (l : Line) : (s.setLine e w l).cfg = s.cfg := rfl
@[simp] theorem State.setLine_response (e : EntryIx) (w : Way) (l : Line) : (s.setLine e w l).response = s.response := rfl
@[simp] theorem State.setLine_port (e : EntryIx) (w : Way) (l : Line) : (s.setLine e w l).port = s.port := rfl
@[simp] theorem State.setLine_draws (e : EntryIx) (w : Way) (l : Line) : (s.setLine e w l).draws = s.draws := rfl
@[simp] theorem State.setLine_lruOf (e : EntryIx) (w : Way) (l : Line) (e' : EntryIx) : (s.setLine e w l).lruOf e' = s.lruOf e' := rfl
@[simp] theorem State.setLine_oldestWay (e : EntryIx) (w : Way) (l : Line) (e' : EntryIx) : (s.setLine e w l).oldestWay e' = s.oldestWay e' := rfl
@[simp] theorem State.setLine_takesDisabledPath (e : EntryIx) (w : Way) (l : Line) (addr : Addr) : (s.setLine e w l).takesDisabledPath addr = s.takesDisabledPath addr := rfl

@[simp] theorem State.setLru_lines (e : EntryIx) (v : LruBits) : (s.setLru e v).lines = s.lines := rfl
@[simp] theorem State.setLru_acc (e : EntryIx) (v : LruBits) : (s.setLru e v).acc = s.acc := rfl
@[simp] theorem State.setLru_prevWrite (e : EntryIx) (v : LruBits) : (s.setLru e v).prevWrite = s.prevWrite := rfl
@[simp] theorem State.setLru_prevArea (e : EntryIx) (v : LruBits) : (s.setLru e v).prevArea = s.prevArea := rfl
@[simp] theorem State.setLru_cnt (e : EntryIx) (v : LruBits) : (s.setLru e v).cnt = s.cnt := rfl
@[simp] theorem State.setLru_enabled (e : EntryIx) (v : LruBits) : (s.setLru e v).enabled = s.enabled := rfl
@[simp] theorem State.setLru_fault (e : EntryIx) (v : LruBits) : (s.setLru e v).fault = s.fault := rfl
@[simp] theorem State.setLru_faultCause (e : EntryIx) (v : LruBits) : (s.setLru e v).faultCause = s.faultCause := rfl
@[simp] theorem State.setLru_cfg (e : EntryIx) (v : LruBits) : (s.setLru e v).cfg = s.cfg := rfl
@[simp] theorem State.setLru_response (e : EntryIx) (v : LruBits) : (s.setLru e v).response = s.response := rfl
@[simp] theorem State.setLru_port (e : EntryIx) (v : LruBits) : (s.setLru e v).port = s.port := rfl
@[simp] theorem State.setLru_draws (e : EntryIx) (v : LruBits) : (s.setLru e v).draws = s.draws := rfl
@[simp] theorem State.setLru_line (e : EntryIx) (v : LruBits) (e' : EntryIx) (w' : Way) : (s.setLru e v).line e' w' = s.line e' w' := rfl
@[simp] theorem State.setLru_lookup (e : EntryIx) (v : LruBits) (e' : EntryIx) (t' : Tag) : (s.setLru e v).lookup e' t' = s.lookup e' t' := rfl
@[simp] theorem State.setLru_flushCost (e : EntryIx) (v : LruBits) : (s.setLru e v).flushCost = s.flushCost := rfl
@[simp] theorem State.setLru_takesDisabledPath (e : EntryIx) (v : LruBits) (addr : Addr) : (s.setLru e v).takesDisabledPath addr = s.takesDisabledPath addr := rfl

@[simp] theorem State.updateLru_lines (e : EntryIx) (w : Way) : (s.updateLru e w).lines = s.lines := rfl
@[simp] theorem State.updateLru_acc (e : EntryIx) (w : Way) : (s.updateLru e w).acc = s.acc := rfl
@[simp] theorem State.updateLru_prevWrite (e : EntryIx) (w : Way) : (s.updateLru e w).prevWrite = s.prevWrite := rfl
@[simp] theorem State.updateLru_prevArea (e : EntryIx) (w : Way) : (s.updateLru e w).prevArea = s.prevArea := rfl
@[simp] theorem State.updateLru_cnt (e : EntryIx) (w : Way) : (s.updateLru e w).cnt = s.cnt := rfl
@[simp] theorem State.updateLru_enabled (e : EntryIx) (w : Way) : (s.updateLru e w).enabled = s.enabled := rfl
@[simp] theorem State.updateLru_fault (e : EntryIx) (w : Way) : (s.updateLru e w).fault = s.fault := rfl
@[simp] theorem State.updateLru_faultCause (e : EntryIx) (w : Way) : (s.updateLru e w).faultCause = s.faultCause := rfl
@[simp] theorem State.updateLru_cfg (e : EntryIx) (w : Way) : (s.updateLru e w).cfg = s.cfg := rfl
@[simp] theorem State.updateLru_response (e : EntryIx) (w : Way) : (s.updateLru e w).response = s.response := rfl
@[simp] theorem State.updateLru_port (e : EntryIx) (w : Way) : (s.updateLru e w).port = s.port := rfl
@[simp] theorem State.updateLru_draws (e : EntryIx) (w : Way) : (s.updateLru e w).draws = s.draws := rfl
@[simp] theorem State.updateLru_line (e : EntryIx) (w : Way) (e' : EntryIx) (w' : Way) : (s.updateLru e w).line e' w' = s.line e' w' := rfl
@[simp] theorem State.updateLru_lookup (e : EntryIx) (w : Way) (e' : EntryIx) (t' : Tag) : (s.updateLru e w).lookup e' t' = s.lookup e' t' := rfl
@[simp] theorem State.updateLru_flushCost (e : EntryIx) (w : Way) : (s.updateLru e w).flushCost = s.flushCost := rfl
@[simp] theorem State.updateLru_takesDisabledPath (e : EntryIx) (w : Way) (addr : Addr) : (s.updateLru e w).takesDisabledPath addr = s.takesDisabledPath addr := rfl

@[simp] theorem State.clearLines_lru : (s.clearLines).lru = s.lru := rfl
@[simp] theorem State.clearLines_acc : (s.clearLines).acc = s.acc := rfl
@[simp] theorem State.clearLines_prevWrite : (s.clearLines).prevWrite = s.prevWrite := rfl
@[simp] theorem State.clearLines_prevArea : (s.clearLines).prevArea = s.prevArea := rfl
@[simp] theorem State.clearLines_cnt : (s.clearLines).cnt = s.cnt := rfl
@[simp] theorem State.clearLines_enabled : (s.clearLines).enabled = s.enabled := rfl
@[simp] theorem State.clearLines_fault : (s.clearLines).fault = s.fault := rfl
@[simp] theorem State.clearLines_faultCause : (s.clearLines).faultCause = s.faultCause := rfl
@[simp] theorem State.clearLines_cfg : (s.clearLines).cfg = s.cfg := rfl
@[simp] theorem State.clearLines_response : (s.clearLines).response = s.response := rfl
@[simp] theorem State.clearLines_port : (s.clearLines).port = s.port := rfl
@[simp] theorem State.clearLines_draws : (s.clearLines).draws = s.draws := rfl
@[simp] theorem State.clearLines_lruOf (e' : EntryIx) : (s.clearLines).lruOf e' = s.lruOf e' := rfl
@[simp] theorem State.clearLines_oldestWay (e' : EntryIx) : (s.clearLines).oldestWay e' = s.oldestWay e' := rfl
@[simp] theorem State.clearLines_takesDisabledPath (addr : Addr) : (s.clearLines).takesDisabledPath addr = s.takesDisabledPath addr := rfl

@[simp] theorem State.charge_lines (n : Nat) : (s.charge n).lines = s.lines := rfl
@[simp] theorem State.charge_lru (n : Nat) : (s.charge n).lru = s.lru := rfl
@[simp] theorem State.charge_acc (n : Nat) : (s.charge n).acc = s.acc + n := rfl
@[simp] theorem State.charge_prevWrite (n : Nat) : (s.charge n).prevWrite = s.prevWrite := rfl
@[simp] theorem State.charge_prevArea (n : Nat) : (s.charge n).prevArea = s.prevArea := rfl
@[simp] theorem State.charge_cnt (n : Nat) : (s.charge n).cnt = s.cnt := rfl
@[simp] theorem State.charge_enabled (n : Nat) : (s.charge n).enabled = s.enabled := rfl
@[simp] theorem State.charge_fault (n : Nat) : (s.charge n).fault = s.fault := rfl
@[simp] theorem State.charge_faultCause (n : Nat) : (s.charge n).faultCause = s.faultCause := rfl
@[simp] theorem State.charge_cfg (n : Nat) : (s.charge n).cfg = s.cfg := rfl
@[simp] theorem State.charge_response (n : Nat) : (s.charge n).response = s.response := rfl
@[simp] theorem State.charge_port (n : Nat) : (s.charge n).port = s.port := rfl
@[simp] theorem State.charge_draws (n : Nat) : (s.charge n).draws = s.draws := rfl
@[simp] theorem State.charge_line (n : Nat) (e' : EntryIx) (w' : Way) : (s.charge n).line e' w' = s.line e' w' := rfl
@[simp] theorem State.charge_lookup (n : Nat) (e' : EntryIx) (t' : Tag) : (s.charge n).lookup e' t' = s.lookup e' t' := rfl
@[simp] theorem State.charge_flushCost (n : Nat) : (s.charge n).flushCost = s.flushCost := rfl
@[simp] theorem State.charge_lruOf (n : Nat) (e' : EntryIx) : (s.charge n).lruOf e' = s.lruOf e' := rfl
@[simp] theorem State.charge_oldestWay (n : Nat) (e' : EntryIx) : (s.charge n).oldestWay e' = s.oldestWay e' := rfl
@[simp] theorem State.charge_takesDisabledPath (n : Nat) (addr : Addr) : (s.charge n).takesDisabledPath addr = s.takesDisabledPath addr := rfl

@[simp] theorem State.setAcc_lines (n : Nat) : (s.setAcc n).lines = s.lines := rfl
@[simp] theorem State.setAcc_lru (n : Nat) : (s.setAcc n).lru = s.lru := rfl
@[simp] theorem State.setAcc_acc (n : Nat) : (s.setAcc n).acc = n := rfl
@[simp] theorem State.setAcc_prevWrite (n : Nat) : (s.setAcc n).prevWrite = s.prevWrite := rfl
@[simp] theorem State.setAcc_prevArea (n : Nat) : (s.setAcc n).prevArea = s.prevArea := rfl
@[simp] theorem State.setAcc_cnt (n : Nat) : (s.setAcc n).cnt = s.cnt := rfl
@[simp] theorem State.setAcc_enabled (n : Nat) : (s.setAcc n).enabled = s.enabled := rfl
@[simp] theorem State.setAcc_fault (n : Nat) : (s.setAcc n).fault = s.fault := rfl
@[simp] theorem State.setAcc_faultCause (n : Nat) : (s.setAcc n).faultCause = s.faultCause := rfl
@[simp] theorem State.setAcc_cfg (n : Nat) : (s.setAcc n).cfg = s.cfg := rfl
@[simp] theorem State.setAcc_response (n : Nat) : (s.setAcc n).response = s.response := rfl
@[simp] theorem State.setAcc_port (n : Nat) : (s.setAcc n).port = s.port := rfl
@[simp] theorem State.setAcc_draws (n : Nat) : (s.setAcc n).draws = s.draws := rfl
@[simp] theorem State.setAcc_line (n : Nat) (e' : EntryIx) (w' : Way) : (s.setAcc n).line e' w' = s.line e' w' := rfl
@[simp] theorem State.setAcc_lookup (n : Nat) (e' : EntryIx) (t' : Tag) : (s.setAcc n).lookup e' t' = s.lookup e' t' := rfl
@[simp] theorem State.setAcc_flushCost (n : Nat) : (s.setAcc n).flushCost = s.flushCost := rfl
@[simp] theorem State.setAcc_lruOf (n : Nat) (e' : EntryIx) : (s.setAcc n).lruOf e' = s.lruOf e' := rfl
@[simp] theorem State.setAcc_oldestWay (n : Nat) (e' : EntryIx) : (s.setAcc n).oldestWay e' = s.oldestWay e' := rfl
@[simp] theorem State.setAcc_takesDisabledPath (n : Nat) (addr : Addr) : (s.setAcc n).takesDisabledPath addr = s.takesDisabledPath addr := rfl

@[simp] theorem State.turnaround_lines (isWrite : Bool) (a : AreaCode) : (s.turnaround isWrite a).lines = s.lines := rfl
@[simp] theorem State.turnaround_lru (isWrite : Bool) (a : AreaCode) : (s.turnaround isWrite a).lru = s.lru := rfl
@[simp] theorem State.turnaround_acc (isWrite : Bool) (a : AreaCode) : (s.turnaround isWrite a).acc = s.acc + turnaroundCharge s.prevWrite s.prevArea isWrite a := rfl
@[simp] theorem State.turnaround_prevWrite (isWrite : Bool) (a : AreaCode) : (s.turnaround isWrite a).prevWrite = isWrite := rfl
@[simp] theorem State.turnaround_prevArea (isWrite : Bool) (a : AreaCode) : (s.turnaround isWrite a).prevArea = a := rfl
@[simp] theorem State.turnaround_cnt (isWrite : Bool) (a : AreaCode) : (s.turnaround isWrite a).cnt = s.cnt := rfl
@[simp] theorem State.turnaround_enabled (isWrite : Bool) (a : AreaCode) : (s.turnaround isWrite a).enabled = s.enabled := rfl
@[simp] theorem State.turnaround_fault (isWrite : Bool) (a : AreaCode) : (s.turnaround isWrite a).fault = s.fault := rfl
@[simp] theorem State.turnaround_faultCause (isWrite : Bool) (a : AreaCode) : (s.turnaround isWrite a).faultCause = s.faultCause := rfl
@[simp] theorem State.turnaround_cfg (isWrite : Bool) (a : AreaCode) : (s.turnaround isWrite a).cfg = s.cfg := rfl
@[simp] theorem State.turnaround_response (isWrite : Bool) (a : AreaCode) : (s.turnaround isWrite a).response = s.response := rfl
@[simp] theorem State.turnaround_port (isWrite : Bool) (a : AreaCode) : (s.turnaround isWrite a).port = s.port := rfl
@[simp] theorem State.turnaround_draws (isWrite : Bool) (a : AreaCode) : (s.turnaround isWrite a).draws = s.draws := rfl
@[simp] theorem State.turnaround_line (isWrite : Bool) (a : AreaCode) (e' : EntryIx) (w' : Way) : (s.turnaround isWrite a).line e' w' = s.line e' w' := rfl
@[simp] theorem State.turnaround_lookup (isWrite : Bool) (a : AreaCode) (e' : EntryIx) (t' : Tag) : (s.turnaround isWrite a).lookup e' t' = s.lookup e' t' := rfl
@[simp] theorem State.turnaround_flushCost (isWrite : Bool) (a : AreaCode) : (s.turnaround isWrite a).flushCost = s.flushCost := rfl
@[simp] theorem State.turnaround_lruOf (isWrite : Bool) (a : AreaCode) (e' : EntryIx) : (s.turnaround isWrite a).lruOf e' = s.lruOf e' := rfl
@[simp] theorem State.turnaround_oldestWay (isWrite : Bool) (a : AreaCode) (e' : EntryIx) : (s.turnaround isWrite a).oldestWay e' = s.oldestWay e' := rfl
@[simp] theorem State.turnaround_takesDisabledPath (isWrite : Bool) (a : AreaCode) (addr : Addr) : (s.turnaround isWrite a).takesDisabledPath addr = s.takesDisabledPath addr := rfl

@[simp] theorem State.countRead_lines : (s.countRead).lines = s.lines := rfl
@[simp] theorem State.countRead_lru : (s.countRead).lru = s.lru := rfl
@[simp] theorem State.countRead_acc : (s.countRead).acc = s.acc := rfl
@[simp] theorem State.countRead_prevWrite : (s.countRead).prevWrite = s.prevWrite := rfl
@[simp] theorem State.countRead_prevArea : (s.countRead).prevArea = s.prevArea := rfl
@[simp] theorem State.countRead_cnt : (s.countRead).cnt = { s.cnt with reads := s.cnt.reads.bump s.cfg s.draws } := rfl
@[simp] theorem State.countRead_enabled : (s.countRead).enabled = s.enabled := rfl
@[simp] theorem State.countRead_fault : (s.countRead).fault = s.fault := rfl
@[simp] theorem State.countRead_faultCause : (s.countRead).faultCause = s.faultCause := rfl
@[simp] theorem State.countRead_cfg : (s.countRead).cfg = s.cfg := rfl
@[simp] theorem State.countRead_response : (s.countRead).response = s.response := rfl
@[simp] theorem State.countRead_port : (s.countRead).port = s.port := rfl
@[simp] theorem State.countRead_draws : (s.countRead).draws = s.drawsAfter s.cnt.reads := rfl
@[simp] theorem State.countRead_line (e' : EntryIx) (w' : Way) : (s.countRead).line e' w' = s.line e' w' := rfl
@[simp] theorem State.countRead_lookup (e' : EntryIx) (t' : Tag) : (s.countRead).lookup e' t' = s.lookup e' t' := rfl
@[simp] theorem State.countRead_flushCost : (s.countRead).flushCost = s.flushCost := rfl
@[simp] theorem State.countRead_lruOf (e' : EntryIx) : (s.countRead).lruOf e' = s.lruOf e' := rfl
@[simp] theorem State.countRead_oldestWay (e' : EntryIx) : (s.countRead).oldestWay e' = s.oldestWay e' := rfl
@[simp] theorem State.countRead_takesDisabledPath (addr : Addr) : (s.countRead).takesDisabledPath addr = s.takesDisabledPath addr := rfl

@[simp] theorem State.countHit_lines : (s.countHit).lines = s.lines := rfl
@[simp] theorem State.countHit_lru : (s.countHit).lru = s.lru := rfl
@[simp] theorem State.countHit_acc : (s.countHit).acc = s.acc := rfl
@[simp] theorem State.countHit_prevWrite : (s.countHit).prevWrite = s.prevWrite := rfl
@[simp] theorem State.countHit_prevArea : (s.countHit).prevArea = s.prevArea := rfl
@[simp] theorem State.countHit_cnt : (s.countHit).cnt = { s.cnt with hits := s.cnt.hits.bump s.cfg s.draws } := rfl
@[simp] theorem State.countHit_enabled : (s.countHit).enabled = s.enabled := rfl
@[simp] theorem State.countHit_fault : (s.countHit).fault = s.fault := rfl
@[simp] theorem State.countHit_faultCause : (s.countHit).faultCause = s.faultCause := rfl
@[simp] theorem State.countHit_cfg : (s.countHit).cfg = s.cfg := rfl
@[simp] theorem State.countHit_response : (s.countHit).response = s.response := rfl
@[simp] theorem State.countHit_port : (s.countHit).port = s.port := rfl
@[simp] theorem State.countHit_draws : (s.countHit).draws = s.drawsAfter s.cnt.hits := rfl
@[simp] theorem State.countHit_line (e' : EntryIx) (w' : Way) : (s.countHit).line e' w' = s.line e' w' := rfl
@[simp] theorem State.countHit_lookup (e' : EntryIx) (t' : Tag) : (s.countHit).lookup e' t' = s.lookup e' t' := rfl
@[simp] theorem State.countHit_flushCost : (s.countHit).flushCost = s.flushCost := rfl
@[simp] theorem State.countHit_lruOf (e' : EntryIx) : (s.countHit).lruOf e' = s.lruOf e' := rfl
@[simp] theorem State.countHit_oldestWay (e' : EntryIx) : (s.countHit).oldestWay e' = s.oldestWay e' := rfl
@[simp] theorem State.countHit_takesDisabledPath (addr : Addr) : (s.countHit).takesDisabledPath addr = s.takesDisabledPath addr := rfl

@[simp] theorem State.countMiss_lines : (s.countMiss).lines = s.lines := rfl
@[simp] theorem State.countMiss_lru : (s.countMiss).lru = s.lru := rfl
@[simp] theorem State.countMiss_acc : (s.countMiss).acc = s.acc := rfl
@[simp] theorem State.countMiss_prevWrite : (s.countMiss).prevWrite = s.prevWrite := rfl
@[simp] theorem State.countMiss_prevArea : (s.countMiss).prevArea = s.prevArea := rfl
@[simp] theorem State.countMiss_cnt : (s.countMiss).cnt = { s.cnt with misses := s.cnt.misses.bump s.cfg s.draws } := rfl
@[simp] theorem State.countMiss_enabled : (s.countMiss).enabled = s.enabled := rfl
@[simp] theorem State.countMiss_fault : (s.countMiss).fault = s.fault := rfl
@[simp] theorem State.countMiss_faultCause : (s.countMiss).faultCause = s.faultCause := rfl
@[simp] theorem State.countMiss_cfg : (s.countMiss).cfg = s.cfg := rfl
@[simp] theorem State.countMiss_response : (s.countMiss).response = s.response := rfl
@[simp] theorem State.countMiss_port : (s.countMiss).port = s.port := rfl
@[simp] theorem State.countMiss_draws : (s.countMiss).draws = s.drawsAfter s.cnt.misses := rfl
@[simp] theorem State.countMiss_line (e' : EntryIx) (w' : Way) : (s.countMiss).line e' w' = s.line e' w' := rfl
@[simp] theorem State.countMiss_lookup (e' : EntryIx) (t' : Tag) : (s.countMiss).lookup e' t' = s.lookup e' t' := rfl
@[simp] theorem State.countMiss_flushCost : (s.countMiss).flushCost = s.flushCost := rfl
@[simp] theorem State.countMiss_lruOf (e' : EntryIx) : (s.countMiss).lruOf e' = s.lruOf e' := rfl
@[simp] theorem State.countMiss_oldestWay (e' : EntryIx) : (s.countMiss).oldestWay e' = s.oldestWay e' := rfl
@[simp] theorem State.countMiss_takesDisabledPath (addr : Addr) : (s.countMiss).takesDisabledPath addr = s.takesDisabledPath addr := rfl

@[simp] theorem State.countDisabled_lines : (s.countDisabled).lines = s.lines := rfl
@[simp] theorem State.countDisabled_lru : (s.countDisabled).lru = s.lru := rfl
@[simp] theorem State.countDisabled_acc : (s.countDisabled).acc = s.acc := rfl
@[simp] theorem State.countDisabled_prevWrite : (s.countDisabled).prevWrite = s.prevWrite := rfl
@[simp] theorem State.countDisabled_prevArea : (s.countDisabled).prevArea = s.prevArea := rfl
@[simp] theorem State.countDisabled_cnt : (s.countDisabled).cnt = { s.cnt with disabled := s.cnt.disabled.bump s.cfg s.draws } := rfl
@[simp] theorem State.countDisabled_enabled : (s.countDisabled).enabled = s.enabled := rfl
@[simp] theorem State.countDisabled_fault : (s.countDisabled).fault = s.fault := rfl
@[simp] theorem State.countDisabled_faultCause : (s.countDisabled).faultCause = s.faultCause := rfl
@[simp] theorem State.countDisabled_cfg : (s.countDisabled).cfg = s.cfg := rfl
@[simp] theorem State.countDisabled_response : (s.countDisabled).response = s.response := rfl
@[simp] theorem State.countDisabled_port : (s.countDisabled).port = s.port := rfl
@[simp] theorem State.countDisabled_draws : (s.countDisabled).draws = s.drawsAfter s.cnt.disabled := rfl
@[simp] theorem State.countDisabled_line (e' : EntryIx) (w' : Way) : (s.countDisabled).line e' w' = s.line e' w' := rfl
@[simp] theorem State.countDisabled_lookup (e' : EntryIx) (t' : Tag) : (s.countDisabled).lookup e' t' = s.lookup e' t' := rfl
@[simp] theorem State.countDisabled_flushCost : (s.countDisabled).flushCost = s.flushCost := rfl
@[simp] theorem State.countDisabled_lruOf (e' : EntryIx) : (s.countDisabled).lruOf e' = s.lruOf e' := rfl
@[simp] theorem State.countDisabled_oldestWay (e' : EntryIx) : (s.countDisabled).oldestWay e' = s.oldestWay e' := rfl
@[simp] theorem State.countDisabled_takesDisabledPath (addr : Addr) : (s.countDisabled).takesDisabledPath addr = s.takesDisabledPath addr := rfl

@[simp] theorem State.clearCounters_lines : (s.clearCounters).lines = s.lines := rfl
@[simp] theorem State.clearCounters_lru : (s.clearCounters).lru = s.lru := rfl
@[simp] theorem State.clearCounters_acc : (s.clearCounters).acc = s.acc := rfl
@[simp] theorem State.clearCounters_prevWrite : (s.clearCounters).prevWrite = s.prevWrite := rfl
@[simp] theorem State.clearCounters_prevArea : (s.clearCounters).prevArea = s.prevArea := rfl
@[simp] theorem State.clearCounters_cnt : (s.clearCounters).cnt = .zero := rfl
@[simp] theorem State.clearCounters_enabled : (s.clearCounters).enabled = s.enabled := rfl
@[simp] theorem State.clearCounters_fault : (s.clearCounters).fault = s.fault := rfl
@[simp] theorem State.clearCounters_faultCause : (s.clearCounters).faultCause = s.faultCause := rfl
@[simp] theorem State.clearCounters_cfg : (s.clearCounters).cfg = s.cfg := rfl
@[simp] theorem State.clearCounters_response : (s.clearCounters).response = s.response := rfl
@[simp] theorem State.clearCounters_port : (s.clearCounters).port = s.port := rfl
@[simp] theorem State.clearCounters_draws : (s.clearCounters).draws = s.draws := rfl
@[simp] theorem State.clearCounters_line (e' : EntryIx) (w' : Way) : (s.clearCounters).line e' w' = s.line e' w' := rfl
@[simp] theorem State.clearCounters_lookup (e' : EntryIx) (t' : Tag) : (s.clearCounters).lookup e' t' = s.lookup e' t' := rfl
@[simp] theorem State.clearCounters_flushCost : (s.clearCounters).flushCost = s.flushCost := rfl
@[simp] theorem State.clearCounters_lruOf (e' : EntryIx) : (s.clearCounters).lruOf e' = s.lruOf e' := rfl
@[simp] theorem State.clearCounters_oldestWay (e' : EntryIx) : (s.clearCounters).oldestWay e' = s.oldestWay e' := rfl
@[simp] theorem State.clearCounters_takesDisabledPath (addr : Addr) : (s.clearCounters).takesDisabledPath addr = s.takesDisabledPath addr := rfl

@[simp] theorem State.setEnabled_lines (b : Bool) : (s.setEnabled b).lines = s.lines := rfl
@[simp] theorem State.setEnabled_lru (b : Bool) : (s.setEnabled b).lru = s.lru := rfl
@[simp] theorem State.setEnabled_acc (b : Bool) : (s.setEnabled b).acc = s.acc := rfl
@[simp] theorem State.setEnabled_prevWrite (b : Bool) : (s.setEnabled b).prevWrite = s.prevWrite := rfl
@[simp] theorem State.setEnabled_prevArea (b : Bool) : (s.setEnabled b).prevArea = s.prevArea := rfl
@[simp] theorem State.setEnabled_cnt (b : Bool) : (s.setEnabled b).cnt = s.cnt := rfl
@[simp] theorem State.setEnabled_enabled (b : Bool) : (s.setEnabled b).enabled = b := rfl
@[simp] theorem State.setEnabled_fault (b : Bool) : (s.setEnabled b).fault = s.fault := rfl
@[simp] theorem State.setEnabled_faultCause (b : Bool) : (s.setEnabled b).faultCause = s.faultCause := rfl
@[simp] theorem State.setEnabled_cfg (b : Bool) : (s.setEnabled b).cfg = s.cfg := rfl
@[simp] theorem State.setEnabled_response (b : Bool) : (s.setEnabled b).response = s.response := rfl
@[simp] theorem State.setEnabled_port (b : Bool) : (s.setEnabled b).port = s.port := rfl
@[simp] theorem State.setEnabled_draws (b : Bool) : (s.setEnabled b).draws = s.draws := rfl
@[simp] theorem State.setEnabled_line (b : Bool) (e' : EntryIx) (w' : Way) : (s.setEnabled b).line e' w' = s.line e' w' := rfl
@[simp] theorem State.setEnabled_lookup (b : Bool) (e' : EntryIx) (t' : Tag) : (s.setEnabled b).lookup e' t' = s.lookup e' t' := rfl
@[simp] theorem State.setEnabled_flushCost (b : Bool) : (s.setEnabled b).flushCost = s.flushCost := rfl
@[simp] theorem State.setEnabled_lruOf (b : Bool) (e' : EntryIx) : (s.setEnabled b).lruOf e' = s.lruOf e' := rfl
@[simp] theorem State.setEnabled_oldestWay (b : Bool) (e' : EntryIx) : (s.setEnabled b).oldestWay e' = s.oldestWay e' := rfl

@[simp] theorem State.drawn_lines : (s.drawn).lines = s.lines := rfl
@[simp] theorem State.drawn_lru : (s.drawn).lru = s.lru := rfl
@[simp] theorem State.drawn_acc : (s.drawn).acc = s.acc := rfl
@[simp] theorem State.drawn_prevWrite : (s.drawn).prevWrite = s.prevWrite := rfl
@[simp] theorem State.drawn_prevArea : (s.drawn).prevArea = s.prevArea := rfl
@[simp] theorem State.drawn_cnt : (s.drawn).cnt = s.cnt := rfl
@[simp] theorem State.drawn_enabled : (s.drawn).enabled = s.enabled := rfl
@[simp] theorem State.drawn_fault : (s.drawn).fault = s.fault := rfl
@[simp] theorem State.drawn_faultCause : (s.drawn).faultCause = s.faultCause := rfl
@[simp] theorem State.drawn_cfg : (s.drawn).cfg = s.cfg := rfl
@[simp] theorem State.drawn_response : (s.drawn).response = s.response := rfl
@[simp] theorem State.drawn_port : (s.drawn).port = s.port := rfl
@[simp] theorem State.drawn_draws : (s.drawn).draws = s.draws + 1 := rfl
@[simp] theorem State.drawn_line (e' : EntryIx) (w' : Way) : (s.drawn).line e' w' = s.line e' w' := rfl
@[simp] theorem State.drawn_lookup (e' : EntryIx) (t' : Tag) : (s.drawn).lookup e' t' = s.lookup e' t' := rfl
@[simp] theorem State.drawn_flushCost : (s.drawn).flushCost = s.flushCost := rfl
@[simp] theorem State.drawn_lruOf (e' : EntryIx) : (s.drawn).lruOf e' = s.lruOf e' := rfl
@[simp] theorem State.drawn_oldestWay (e' : EntryIx) : (s.drawn).oldestWay e' = s.oldestWay e' := rfl
@[simp] theorem State.drawn_takesDisabledPath (addr : Addr) : (s.drawn).takesDisabledPath addr = s.takesDisabledPath addr := rfl

@[simp] theorem State.respond_lines (r : Response) : (s.respond r).lines = s.lines := rfl
@[simp] theorem State.respond_lru (r : Response) : (s.respond r).lru = s.lru := rfl
@[simp] theorem State.respond_acc (r : Response) : (s.respond r).acc = s.acc := rfl
@[simp] theorem State.respond_prevWrite (r : Response) : (s.respond r).prevWrite = s.prevWrite := rfl
@[simp] theorem State.respond_prevArea (r : Response) : (s.respond r).prevArea = s.prevArea := rfl
@[simp] theorem State.respond_cnt (r : Response) : (s.respond r).cnt = s.cnt := rfl
@[simp] theorem State.respond_enabled (r : Response) : (s.respond r).enabled = s.enabled := rfl
@[simp] theorem State.respond_fault (r : Response) : (s.respond r).fault = s.fault := rfl
@[simp] theorem State.respond_faultCause (r : Response) : (s.respond r).faultCause = s.faultCause := rfl
@[simp] theorem State.respond_cfg (r : Response) : (s.respond r).cfg = s.cfg := rfl
@[simp] theorem State.respond_response (r : Response) : (s.respond r).response = r := rfl
@[simp] theorem State.respond_port (r : Response) : (s.respond r).port = s.port := rfl
@[simp] theorem State.respond_draws (r : Response) : (s.respond r).draws = s.draws := rfl
@[simp] theorem State.respond_line (r : Response) (e' : EntryIx) (w' : Way) : (s.respond r).line e' w' = s.line e' w' := rfl
@[simp] theorem State.respond_lookup (r : Response) (e' : EntryIx) (t' : Tag) : (s.respond r).lookup e' t' = s.lookup e' t' := rfl
@[simp] theorem State.respond_flushCost (r : Response) : (s.respond r).flushCost = s.flushCost := rfl
@[simp] theorem State.respond_lruOf (r : Response) (e' : EntryIx) : (s.respond r).lruOf e' = s.lruOf e' := rfl
@[simp] theorem State.respond_oldestWay (r : Response) (e' : EntryIx) : (s.respond r).oldestWay e' = s.oldestWay e' := rfl
@[simp] theorem State.respond_takesDisabledPath (r : Response) (addr : Addr) : (s.respond r).takesDisabledPath addr = s.takesDisabledPath addr := rfl

@[simp] theorem State.raiseFault_lines (c : FaultCause) : (s.raiseFault c).lines = s.lines := rfl
@[simp] theorem State.raiseFault_lru (c : FaultCause) : (s.raiseFault c).lru = s.lru := rfl
@[simp] theorem State.raiseFault_acc (c : FaultCause) : (s.raiseFault c).acc = s.acc := rfl
@[simp] theorem State.raiseFault_prevWrite (c : FaultCause) : (s.raiseFault c).prevWrite = s.prevWrite := rfl
@[simp] theorem State.raiseFault_prevArea (c : FaultCause) : (s.raiseFault c).prevArea = s.prevArea := rfl
@[simp] theorem State.raiseFault_cnt (c : FaultCause) : (s.raiseFault c).cnt = s.cnt := rfl
@[simp] theorem State.raiseFault_enabled (c : FaultCause) : (s.raiseFault c).enabled = s.enabled := rfl
@[simp] theorem State.raiseFault_fault (c : FaultCause) : (s.raiseFault c).fault = true := rfl
@[simp] theorem State.raiseFault_faultCause (c : FaultCause) : (s.raiseFault c).faultCause = c := rfl
@[simp] theorem State.raiseFault_cfg (c : FaultCause) : (s.raiseFault c).cfg = s.cfg := rfl
@[simp] theorem State.raiseFault_response (c : FaultCause) : (s.raiseFault c).response = .fault c := rfl
@[simp] theorem State.raiseFault_port (c : FaultCause) : (s.raiseFault c).port = s.port := rfl
@[simp] theorem State.raiseFault_draws (c : FaultCause) : (s.raiseFault c).draws = s.draws := rfl
@[simp] theorem State.raiseFault_line (c : FaultCause) (e' : EntryIx) (w' : Way) : (s.raiseFault c).line e' w' = s.line e' w' := rfl
@[simp] theorem State.raiseFault_lookup (c : FaultCause) (e' : EntryIx) (t' : Tag) : (s.raiseFault c).lookup e' t' = s.lookup e' t' := rfl
@[simp] theorem State.raiseFault_flushCost (c : FaultCause) : (s.raiseFault c).flushCost = s.flushCost := rfl
@[simp] theorem State.raiseFault_lruOf (c : FaultCause) (e' : EntryIx) : (s.raiseFault c).lruOf e' = s.lruOf e' := rfl
@[simp] theorem State.raiseFault_oldestWay (c : FaultCause) (e' : EntryIx) : (s.raiseFault c).oldestWay e' = s.oldestWay e' := rfl
@[simp] theorem State.raiseFault_takesDisabledPath (c : FaultCause) (addr : Addr) : (s.raiseFault c).takesDisabledPath addr = s.takesDisabledPath addr := rfl

@[simp] theorem State.refuse_lines : (s.refuse).lines = s.lines := rfl
@[simp] theorem State.refuse_lru : (s.refuse).lru = s.lru := rfl
@[simp] theorem State.refuse_acc : (s.refuse).acc = s.acc := rfl
@[simp] theorem State.refuse_prevWrite : (s.refuse).prevWrite = s.prevWrite := rfl
@[simp] theorem State.refuse_prevArea : (s.refuse).prevArea = s.prevArea := rfl
@[simp] theorem State.refuse_cnt : (s.refuse).cnt = s.cnt := rfl
@[simp] theorem State.refuse_enabled : (s.refuse).enabled = s.enabled := rfl
@[simp] theorem State.refuse_fault : (s.refuse).fault = s.fault := rfl
@[simp] theorem State.refuse_faultCause : (s.refuse).faultCause = s.faultCause := rfl
@[simp] theorem State.refuse_cfg : (s.refuse).cfg = s.cfg := rfl
@[simp] theorem State.refuse_response : (s.refuse).response = .fault s.faultCause := rfl
@[simp] theorem State.refuse_port : (s.refuse).port = s.port := rfl
@[simp] theorem State.refuse_draws : (s.refuse).draws = s.draws := rfl
@[simp] theorem State.refuse_line (e' : EntryIx) (w' : Way) : (s.refuse).line e' w' = s.line e' w' := rfl
@[simp] theorem State.refuse_lookup (e' : EntryIx) (t' : Tag) : (s.refuse).lookup e' t' = s.lookup e' t' := rfl
@[simp] theorem State.refuse_flushCost : (s.refuse).flushCost = s.flushCost := rfl
@[simp] theorem State.refuse_lruOf (e' : EntryIx) : (s.refuse).lruOf e' = s.lruOf e' := rfl
@[simp] theorem State.refuse_oldestWay (e' : EntryIx) : (s.refuse).oldestWay e' = s.oldestWay e' := rfl
@[simp] theorem State.refuse_takesDisabledPath (addr : Addr) : (s.refuse).takesDisabledPath addr = s.takesDisabledPath addr := rfl

end Sys2Proof.Machine
end

