-- ==== Sys2Proof/Laws/Ops.lean ====
section
/-! SUPPORT. What the shared operations do: the two arrays, the hit scan, tables mapped entry by entry, the widths
and counters, and running a command. -/

namespace Sys2Proof.Machine

/-! Tables. -/

@[simp] theorem getElem_mapTable {α β : Type} {n : Nat} (f : α → β) (v : Vector α n) (i : Nat) (h : i < n) :
    (mapTable f v)[i] = f v[i] := by
  simp [mapTable]

/-! The line array and the LRU array. -/

theorem State.line_setLine (s : State) (e : EntryIx) (w : Way) (l : Line) (e' : EntryIx) (w' : Way) :
    (s.setLine e w l).line e' w' = if e' = e ∧ w' = w then l else s.line e' w' := by
  simp only [State.line, State.setLine, Vector.getElem_set]
  by_cases he : e = e'
  · subst he
    by_cases hw : w = w'
    · subst hw; simp
    · have hv : ¬(w : Nat) = w' := fun h => hw (Fin.ext h)
      have hw' : ¬w' = w := fun h => hw h.symm
      simp [hv, hw']
  · have hn : ¬e.toNat = e'.toNat := fun h => he (BitVec.eq_of_toNat_eq h)
    have he' : ¬e' = e := fun h => he h.symm
    simp [hn, he']

@[simp] theorem State.line_setLine_self (s : State) (e : EntryIx) (w : Way) (l : Line) :
    (s.setLine e w l).line e w = l := by simp [State.line_setLine]

theorem State.lruOf_setLru (s : State) (e : EntryIx) (v : LruBits) (e' : EntryIx) :
    (s.setLru e v).lruOf e' = if e' = e then v else s.lruOf e' := by
  simp only [State.lruOf, State.setLru, Vector.getElem_set]
  by_cases he : e = e'
  · subst he; simp
  · have hn : ¬e.toNat = e'.toNat := fun h => he (BitVec.eq_of_toNat_eq h)
    have he' : ¬e' = e := fun h => he h.symm
    simp [hn, he']

theorem State.lruOf_updateLru (s : State) (e : EntryIx) (w : Way) (e' : EntryIx) :
    (s.updateLru e w).lruOf e' = if e' = e then touched s.cfg (s.lruOf e) w else s.lruOf e' :=
  s.lruOf_setLru e _ e'

@[simp] theorem State.line_clearLines (s : State) (e : EntryIx) (w : Way) :
    s.clearLines.line e w = (s.line e w).flushed := by
  simp [State.line, State.clearLines]

/-- Two states agree when their parts do; the arrays are compared through their accessors. -/
theorem State.lines_ext {v v' : Vector (Vector Line 4) 256}
    (h : ∀ (e : EntryIx) (w : Way), (v[e.toNat]'e.isLt)[w] = (v'[e.toNat]'e.isLt)[w]) : v = v' := by
  apply Vector.ext
  intro i hi
  apply Vector.ext
  intro j hj
  have := h (BitVec.ofNat 8 i) ⟨j, hj⟩
  simpa [Nat.mod_eq_of_lt hi] using this

/-! The hit scan, R90. -/

theorem State.lookup_hits {s : State} {e : EntryIx} {t : Tag} {w : Way} (h : s.lookup e t = some w) :
    (s.line e w).valid = true ∧ (s.line e w).tag = t := by
  have := List.find?_some h
  simpa [Line.hits] using this

theorem State.lookup_eq_none {s : State} {e : EntryIx} {t : Tag} :
    s.lookup e t = none ↔ ∀ w, ¬((s.line e w).valid = true ∧ (s.line e w).tag = t) := by
  rw [State.lookup, List.find?_eq_none]
  constructor
  · intro h w
    have := h w (by fin_cases w <;> simp)
    simpa [Line.hits] using this
  · intro h w _
    simpa [Line.hits] using h w

/-! The flush sum, R107. -/

theorem State.flushCost_eq_sum (s : State) :
    s.flushCost = ∑ e : EntryIx, ∑ w : Way, writeBackCost s.cfg (s.line e w) := by
  have hways : ∀ ways : Vector Line 4,
      (ways.toList.map (writeBackCost s.cfg)).sum = ∑ w : Way, writeBackCost s.cfg ways[w] := by
    intro ways
    have hl : ways.toList = List.ofFn (fun w : Way => ways[w]) := by
      apply List.ext_getElem (by rw [Vector.length_toList, List.length_ofFn])
      intro i h1 h2
      simp only [Vector.getElem_toList, List.getElem_ofFn, Fin.getElem_fin]
    rw [hl, List.map_ofFn, List.sum_ofFn]
    rfl
  have hl : s.lines.toList = List.ofFn (fun e : Fin 256 => s.lines[e]) := by
    apply List.ext_getElem (by rw [Vector.length_toList, List.length_ofFn])
    intro i h1 h2
    simp only [Vector.getElem_toList, List.getElem_ofFn, Fin.getElem_fin]
  rw [State.flushCost, hl, List.map_ofFn, List.sum_ofFn]
  simp only [Function.comp, hways]
  apply Fintype.sum_bijective (fun e : Fin 256 => (BitVec.ofFin e : EntryIx))
  · exact ⟨fun a b h => by simpa using h, fun b => ⟨b.toFin, rfl⟩⟩
  · exact fun _ => rfl

/-! Widths and counters. -/

theorem fitsWidth_mono {width : Option Nat} {m n : Nat} (h : m ≤ n) (hn : fitsWidth width n = true) :
    fitsWidth width m = true := by
  cases width with
  | none => rfl
  | some w => simp only [fitsWidth, decide_eq_true_eq] at *; omega

@[simp] theorem fitsWidth_zero (width : Option Nat) : fitsWidth width 0 = true := by
  cases width <;> simp [fitsWidth]

theorem Counter.bump_of_specified {c : Config} {d : Nat} {k : Counter} (h : k.unspecified c = false) :
    k.bump c d = ⟨k.value + 1, false⟩ := by simp [Counter.bump, h]

theorem Counter.bump_of_unspecified {c : Config} {d : Nat} {k : Counter} (h : k.unspecified c = true) :
    (k.bump c d).past = true := by simp [Counter.bump, h]

theorem accAfterDrain_le (acc : Nat) (n : Cycles) : accAfterDrain acc n ≤ acc := by
  unfold accAfterDrain drainRatio
  split_ifs <;> omega

/-! Running a command, R119 to R121: everything it can do. -/

theorem State.run_faulted {s : State} (h : s.fault = true) (r : Effect) : s.run r = .next s.refuse := by
  simp [State.run, h]

theorem State.run_ok {s t : State} (h : s.fault = false) : s.run (.ok t) = .next t := by
  simp [State.run, h]

theorem State.run_error {s : State} {c : FaultCause} (h : s.fault = false) :
    s.run (.error c) = .next (s.raiseFault c) := by
  simp [State.run, h]

theorem State.run_cases {s t : State} {r : Effect} (h : s.run r = .next t) :
    (s.fault = true ∧ t = s.refuse) ∨ (s.fault = false ∧ r = .ok t) ∨
      (s.fault = false ∧ ∃ c, r = .error c ∧ t = s.raiseFault c) := by
  unfold State.run at h
  split at h
  · exact .inl ⟨‹_›, by simpa using h.symm⟩
  · rename_i hne
    have hf : s.fault = false := by simpa using hne
    split at h
    · exact .inr (.inl ⟨hf, by simpa using h⟩)
    · exact .inr (.inr ⟨hf, _, rfl, by simpa using h.symm⟩)

theorem State.byVariant_timing {s : State} (h : s.cfg.variant = .timing) (r r' : Effect) : s.byVariant r r' = r := by
  simp [State.byVariant, h]

theorem State.byVariant_passthrough {s : State} (h : s.cfg.variant = .passthrough) (r r' : Effect) :
    s.byVariant r r' = r' := by
  simp [State.byVariant, h]

theorem Effect.accChecked_ok {t : State} (h : fitsWidth t.cfg.accWidth t.acc = true) :
    Effect.accChecked (.ok t) = .ok t := by
  simp [Effect.accChecked, h]

theorem Effect.accChecked_overflow {t : State} (h : ¬fitsWidth t.cfg.accWidth t.acc = true) :
    Effect.accChecked (.ok t) = .error .accOverflow := by
  simp [Effect.accChecked, h]

theorem Effect.accChecked_cases {r : Effect} {t : State} (h : r.accChecked = .ok t) :
    r = .ok t ∧ fitsWidth t.cfg.accWidth t.acc = true := by
  cases r with
  | error c => simp [Effect.accChecked] at h
  | ok u =>
    simp only [Effect.accChecked] at h
    split at h
    · injection h with h; subst h; exact ⟨rfl, ‹_›⟩
    · cases h

/-- The causes a checked effect can fault with: its own, or ACC_OVERFLOW. -/
theorem Effect.accChecked_error {r : Effect} {c : FaultCause} (h : r.accChecked = .error c) :
    r = .error c ∨ c = .accOverflow := by
  cases r with
  | error c' => exact .inl (by simpa [Effect.accChecked] using h)
  | ok u =>
    simp only [Effect.accChecked] at h
    split at h
    · cases h
    · exact .inr (by injection h with h; exact h.symm)

end Sys2Proof.Machine
end

