-- ==== Sys2Proof/Laws/Access.lean ====
section
/-! SUPPORT. READ and WRITE under the timing rules, path by path: on which condition each path is taken, and the
state or fault it comes to, in terms of the state before (R92, R96). -/

namespace Sys2Proof.Machine

variable {addr : Addr} {s : State} {w v : Way}

theorem takesDisabledPath_eq_true : s.takesDisabledPath addr = true ↔
    (s.cfg.enableGating = .bypass ∧ s.enabled = false) ∨ cachePolicy s.cfg addr = .disabled := by
  simp [State.takesDisabledPath]

theorem readTiming_disabled (h : s.takesDisabledPath addr = true) :
    readTiming addr s = .ok (s.countRead.disabledAccess addr) := by
  simp [readTiming, h]

theorem readTiming_hit (h : s.takesDisabledPath addr = false) (hl : s.lookup (index addr) (tag addr) = some w) :
    readTiming addr s = .ok ((((s.countRead.turnaround false (area s.cfg addr)).countHit).updateLru
      (index addr) w).respond (.access true)) := by
  simp [readTiming, h, hl]

theorem readTiming_invalid (h : s.takesDisabledPath addr = false) (hl : s.lookup (index addr) (tag addr) = none)
    (ho : s.oldestWay (index addr) = none) : readTiming addr s = .error .lruInvalid := by
  simp [readTiming, h, hl, ho]

theorem readTiming_miss (h : s.takesDisabledPath addr = false) (hl : s.lookup (index addr) (tag addr) = none)
    (ho : s.oldestWay (index addr) = some v) :
    readTiming addr s = .ok ((((((s.countRead.turnaround false (area s.cfg addr)).countMiss).charge
      (areaWaitStates s.cfg (area s.cfg addr))).charge
        (if s.cfg.readEvictDirtyCharge then writeBackCost s.cfg (s.line (index addr) v) else 0)).install
          (index addr) v ⟨true, false, tag addr⟩).respond (.access false)) := by
  cases hr : s.cfg.readEvictDirtyCharge with
  | true => simp [readTiming, h, hl, ho, hr]
  | false => simp [readTiming, h, hl, ho, hr]; rfl

/-- The paths of READ are exhaustive. -/
theorem readTiming_ok {t : State} (h : readTiming addr s = .ok t) :
    s.takesDisabledPath addr = true ∨
      s.takesDisabledPath addr = false ∧ ((∃ w, s.lookup (index addr) (tag addr) = some w) ∨
        s.lookup (index addr) (tag addr) = none ∧ ∃ v, s.oldestWay (index addr) = some v) := by
  cases hd : s.takesDisabledPath addr with
  | true => exact .inl rfl
  | false =>
    refine .inr ⟨rfl, ?_⟩
    cases hl : s.lookup (index addr) (tag addr) with
    | some w => exact .inl ⟨w, rfl⟩
    | none =>
      cases ho : s.oldestWay (index addr) with
      | some v => exact .inr ⟨rfl, v, rfl⟩
      | none => rw [readTiming_invalid hd hl ho] at h; cases h

theorem writeTiming_disabled (h : s.takesDisabledPath addr = true) :
    writeTiming addr s = .ok (s.countRead.disabledAccess addr) := by
  simp [writeTiming, h]

theorem writeTiming_hit (h : s.takesDisabledPath addr = false) (hl : s.lookup (index addr) (tag addr) = some w) :
    writeTiming addr s = .ok ((((((s.countRead.turnaround true (area s.cfg addr)).countHit).updateLru
      (index addr) w).setLine (index addr) w ((s.line (index addr) w).writeHit (cachePolicy s.cfg addr))).charge
        (if cachePolicy s.cfg addr = .writeThrough then areaWaitStates s.cfg (area s.cfg addr) else 0)).respond
          (.access true)) := by
  simp only [writeTiming, State.countRead_takesDisabledPath, h, Bool.false_eq_true, if_false,
    State.turnaround_lookup, State.countRead_lookup, hl]
  by_cases hp : cachePolicy s.cfg addr = .writeThrough
  · simp [hp]
  · simp [hp]; rfl

theorem writeTiming_writeThroughMiss (h : s.takesDisabledPath addr = false)
    (hl : s.lookup (index addr) (tag addr) = none) (hp : cachePolicy s.cfg addr = .writeThrough) :
    writeTiming addr s = .ok ((((s.countRead.turnaround true (area s.cfg addr)).countMiss).charge
      (areaWaitStates s.cfg (area s.cfg addr))).respond (.access false)) := by
  simp [writeTiming, h, hl, hp]

theorem writeTiming_invalid (h : s.takesDisabledPath addr = false) (hl : s.lookup (index addr) (tag addr) = none)
    (hp : cachePolicy s.cfg addr ≠ .writeThrough) (ho : s.oldestWay (index addr) = none) :
    writeTiming addr s = .error .lruInvalid := by
  simp [writeTiming, h, hl, hp, ho]

theorem writeTiming_miss (h : s.takesDisabledPath addr = false) (hl : s.lookup (index addr) (tag addr) = none)
    (hp : cachePolicy s.cfg addr ≠ .writeThrough) (ho : s.oldestWay (index addr) = some v) :
    writeTiming addr s = .ok ((((((s.countRead.turnaround true (area s.cfg addr)).countMiss).charge
      (areaWaitStates s.cfg (area s.cfg addr))).charge (writeBackCost s.cfg (s.line (index addr) v))).install
          (index addr) v ⟨true, true, tag addr⟩).respond (.access false)) := by
  simp [writeTiming, h, hl, hp, ho]

/-- The paths of WRITE are exhaustive. -/
theorem writeTiming_ok {t : State} (h : writeTiming addr s = .ok t) :
    s.takesDisabledPath addr = true ∨
      s.takesDisabledPath addr = false ∧ ((∃ w, s.lookup (index addr) (tag addr) = some w) ∨
        s.lookup (index addr) (tag addr) = none ∧ (cachePolicy s.cfg addr = .writeThrough ∨
          cachePolicy s.cfg addr ≠ .writeThrough ∧ ∃ v, s.oldestWay (index addr) = some v)) := by
  cases hd : s.takesDisabledPath addr with
  | true => exact .inl rfl
  | false =>
    refine .inr ⟨rfl, ?_⟩
    cases hl : s.lookup (index addr) (tag addr) with
    | some w => exact .inl ⟨w, rfl⟩
    | none =>
      refine .inr ⟨rfl, ?_⟩
      by_cases hp : cachePolicy s.cfg addr = .writeThrough
      · exact .inl hp
      · cases ho : s.oldestWay (index addr) with
        | some v => exact .inr ⟨hp, v, rfl⟩
        | none => rw [writeTiming_invalid hd hl hp ho] at h; cases h

/-- The only fault the timing rules themselves raise is LRU_INVALID. -/
theorem readTiming_error {c : FaultCause} (h : readTiming addr s = .error c) : c = .lruInvalid := by
  cases hd : s.takesDisabledPath addr with
  | true => rw [readTiming_disabled hd] at h; cases h
  | false =>
    cases hl : s.lookup (index addr) (tag addr) with
    | some w => rw [readTiming_hit hd hl] at h; cases h
    | none =>
      cases ho : s.oldestWay (index addr) with
      | some v => rw [readTiming_miss hd hl ho] at h; cases h
      | none => rw [readTiming_invalid hd hl ho] at h; injection h with h; exact h.symm

theorem writeTiming_error {c : FaultCause} (h : writeTiming addr s = .error c) : c = .lruInvalid := by
  cases hd : s.takesDisabledPath addr with
  | true => rw [writeTiming_disabled hd] at h; cases h
  | false =>
    cases hl : s.lookup (index addr) (tag addr) with
    | some w => rw [writeTiming_hit hd hl] at h; cases h
    | none =>
      by_cases hp : cachePolicy s.cfg addr = .writeThrough
      · rw [writeTiming_writeThroughMiss hd hl hp] at h; cases h
      · cases ho : s.oldestWay (index addr) with
        | some v => rw [writeTiming_miss hd hl hp ho] at h; cases h
        | none => rw [writeTiming_invalid hd hl hp ho] at h; injection h with h; exact h.symm

end Sys2Proof.Machine
end

