-- ==== Sys2Proof/Laws/Decode.lean ====
section
/-! SUPPORT. The fields of a packed command word (R65). -/

namespace Sys2Proof

@[simp] theorem opField_packWord (op : BitVec 3) (addr arg : BitVec 32) : opField (packWord op addr arg) = op := by
  apply BitVec.eq_of_getLsbD_eq
  intro i hi
  simp only [opField, packWord, BitVec.getLsbD_extractLsb, BitVec.getLsbD_append]
  have h1 : ¬64 + i < 32 := by omega
  have h2 : ¬64 + i - 32 < 32 := by omega
  have h3 : 64 + i - 32 - 32 = i := by omega
  simp [h1, h2, h3]
  exact fun _ => by omega

@[simp] theorem addrField_packWord (op : BitVec 3) (addr arg : BitVec 32) :
    addrField (packWord op addr arg) = addr := by
  apply BitVec.eq_of_getLsbD_eq
  intro i hi
  simp only [addrField, packWord, BitVec.getLsbD_extractLsb, BitVec.getLsbD_append]
  have h3 : 32 + i - 32 = i := by omega
  have h4 : i < 32 := by omega
  simp [h3, h4]

@[simp] theorem argField_packWord (op : BitVec 3) (addr arg : BitVec 32) : argField (packWord op addr arg) = arg := by
  apply BitVec.eq_of_getLsbD_eq
  intro i hi
  simp only [argField, packWord, BitVec.getLsbD_extractLsb, BitVec.getLsbD_append]
  have h4 : i < 32 := by omega
  simp [h4]

/-- An op code is one of the eight. -/
theorem op_cases (v : BitVec 3) :
    v = 0 ∨ v = 1 ∨ v = 2 ∨ v = 3 ∨ v = 4 ∨ v = 5 ∨ v = 6 ∨ v = 7 := by
  revert v; decide

end Sys2Proof
end

