-- ==== Sys2Proof/Laws/Exec.lean ====
section
/-! SUPPORT. What executing a command can do, said once: `exec` runs one effect; if it answers a state, that state is
the refusal's, a raised fault's, or the one the command's own rule gives. -/

namespace Sys2Proof.Machine

/-- The effect each command runs. -/
def effectOf (i : Instr) (s : State) : Effect :=
  match i with
  | .read addr => s.byVariant (readTiming addr s).accChecked (passthroughAccess s)
  | .write addr => s.byVariant (writeTiming addr s).accChecked (passthroughAccess s)
  | .flush => s.byVariant (flushTiming s).accChecked (.ok (s.respond .done))
  | .seten b => s.byVariant (enableSet b s) (enableSet b s)
  | .consume n => s.byVariant (drained n s) (drained n s)
  | .reserved5 => badOp
  | .reserved6 => badOp
  | .reserved7 => badOp

theorem exec_eq_run (i : Instr) (s : State) : exec i s = s.run (effectOf i s) := by
  cases i <;> rfl

/-- What a command that neither faults nor is refused leaves: a completed access, FLUSH, CONSUME or SETEN. -/
theorem effectOf_ok {i : Instr} {s t : State} (h : effectOf i s = .ok t) :
    (∃ addr, i = .read addr ∧ s.cfg.variant = .timing ∧ readTiming addr s = .ok t ∧
      fitsWidth t.cfg.accWidth t.acc = true) ∨
    (∃ addr, i = .write addr ∧ s.cfg.variant = .timing ∧ writeTiming addr s = .ok t ∧
      fitsWidth t.cfg.accWidth t.acc = true) ∨
    (∃ addr, (i = .read addr ∨ i = .write addr) ∧ s.cfg.variant = .passthrough ∧
      t = s.drawn.respond (.access (Config.passthroughHit s.draws))) ∨
    (i = .flush ∧ s.cfg.variant = .timing ∧
      t = (((s.charge s.flushCost).clearLines).clearCounters).respond .done ∧
      fitsWidth t.cfg.accWidth t.acc = true) ∨
    (i = .flush ∧ s.cfg.variant = .passthrough ∧ t = s.respond .done) ∨
    (∃ n, i = .consume n ∧
      t = (s.setAcc (accAfterDrain s.acc n)).respond (.remaining (remainingCycles s.acc n))) ∨
    (∃ b, i = .seten b ∧ t = (s.setEnabled b).respond .done) := by
  have hboth : ∀ r : Effect, s.byVariant r r = r := fun r => by unfold State.byVariant; split <;> rfl
  cases i with
  | seten b =>
    simp only [effectOf, hboth, enableSet] at h
    injection h with h
    exact .inr (.inr (.inr (.inr (.inr (.inr ⟨b, rfl, h.symm⟩)))))
  | consume n =>
    simp only [effectOf, hboth, drained] at h
    injection h with h
    exact .inr (.inr (.inr (.inr (.inr (.inl ⟨n, rfl, h.symm⟩)))))
  | read addr =>
    cases hv : s.cfg.variant with
    | timing =>
      simp only [effectOf, State.byVariant_timing hv] at h
      exact .inl ⟨addr, rfl, rfl, Effect.accChecked_cases h⟩
    | passthrough =>
      simp only [effectOf, State.byVariant_passthrough hv, passthroughAccess] at h
      injection h with h
      exact .inr (.inr (.inl ⟨addr, .inl rfl, rfl, h.symm⟩))
  | write addr =>
    cases hv : s.cfg.variant with
    | timing =>
      simp only [effectOf, State.byVariant_timing hv] at h
      exact .inr (.inl ⟨addr, rfl, rfl, Effect.accChecked_cases h⟩)
    | passthrough =>
      simp only [effectOf, State.byVariant_passthrough hv, passthroughAccess] at h
      injection h with h
      exact .inr (.inr (.inl ⟨addr, .inr rfl, rfl, h.symm⟩))
  | flush =>
    cases hv : s.cfg.variant with
    | timing =>
      simp only [effectOf, State.byVariant_timing hv] at h
      obtain ⟨h, hfit⟩ := Effect.accChecked_cases h
      simp only [flushTiming] at h
      injection h with h
      exact .inr (.inr (.inr (.inl ⟨rfl, rfl, h.symm, hfit⟩)))
    | passthrough =>
      simp only [effectOf, State.byVariant_passthrough hv] at h
      injection h with h
      exact .inr (.inr (.inr (.inr (.inl ⟨rfl, rfl, h.symm⟩))))
  | reserved5 => cases h
  | reserved6 => cases h
  | reserved7 => cases h

/-- A raised fault has a cause. -/
theorem effectOf_error {i : Instr} {s : State} {c : FaultCause} (h : effectOf i s = .error c) : c ≠ .none := by
  have hchecked : ∀ r : Effect, (∀ c', r = .error c' → c' = .lruInvalid) → r.accChecked = .error c → c ≠ .none := by
    intro r hr hc
    rcases Effect.accChecked_error hc with he | rfl
    · simp [hr _ he]
    · simp
  cases i with
  | read addr =>
    simp only [effectOf, State.byVariant] at h
    split at h
    · exact hchecked _ (fun _ => readTiming_error) h
    · cases h
  | write addr =>
    simp only [effectOf, State.byVariant] at h
    split at h
    · exact hchecked _ (fun _ => writeTiming_error) h
    · cases h
  | flush =>
    simp only [effectOf, State.byVariant] at h
    split at h
    · exact hchecked _ (fun _ hc => by cases hc) h
    · cases h
  | seten b => simp only [effectOf, State.byVariant] at h; split at h <;> cases h
  | consume n => simp only [effectOf, State.byVariant] at h; split at h <;> cases h
  | reserved5 => injection h with h; simp [← h]
  | reserved6 => injection h with h; simp [← h]
  | reserved7 => injection h with h; simp [← h]

/-- Everything `exec` can answer. -/
theorem exec_cases {i : Instr} {s t : State} (h : exec i s = .next t) :
    (s.fault = true ∧ t = s.refuse) ∨ (s.fault = false ∧ effectOf i s = .ok t) ∨
      (s.fault = false ∧ ∃ c, c ≠ .none ∧ effectOf i s = .error c ∧ t = s.raiseFault c) := by
  rw [exec_eq_run] at h
  rcases State.run_cases h with h | h | ⟨hf, c, he, ht⟩
  · exact .inl h
  · exact .inr (.inl h)
  · exact .inr (.inr ⟨hf, c, effectOf_error he, he, ht⟩)

/-- Everything `step` can answer: nothing was presented, the reset input was asserted, or a command was executed. -/
theorem step_cases {s t : State} (h : step s = .next t) :
    (s.port = [] ∧ t = s) ∨
    (∃ rest, s.port = .resetInput :: rest ∧ t = { State.resetWith s.cfg with port := rest, draws := s.draws }) ∨
    ∃ w rest, s.port = .command w :: rest ∧ exec (decode w) { s with port := rest } = .next t := by
  unfold step State.takeEvent at h
  cases hp : s.port with
  | nil => rw [hp] at h; injection h with h; exact .inl ⟨rfl, h.symm⟩
  | cons ev rest =>
    rw [hp] at h
    cases ev with
    | resetInput => injection h with h; exact .inr (.inl ⟨rest, rfl, h.symm⟩)
    | command w => exact .inr (.inr ⟨w, rest, rfl, h⟩)

end Sys2Proof.Machine
end

