-- ==== Sys2Proof/Laws/Operands.lean ====
section
/-! SUPPORT. What the address functions depend on (R57, R58): `area` on the masked address above bit 26, `cachePolicy`
on the top byte, `index` and `tag` on the bits above bit 4; and the bits of a line address. -/

namespace Sys2Proof.Machine

theorem area_congr {c : Config} {x y : Addr}
    (h : (x &&& c.areaAddrMask).toNat / 2 ^ 26 = (y &&& c.areaAddrMask).toNat / 2 ^ 26) : area c x = area c y := by
  have hfield : (x &&& c.areaAddrMask).extractLsb 28 26 = (y &&& c.areaAddrMask).extractLsb 28 26 := by
    apply BitVec.eq_of_toNat_eq
    simp only [BitVec.extractLsb_toNat, Nat.shiftRight_eq_div_pow]
    rw [h]
  simp only [area, BitVec.lt_def, BitVec.toNat_ofNat]
  generalize x &&& c.areaAddrMask = a at *
  generalize y &&& c.areaAddrMask = b at *
  rw [hfield]
  split_ifs <;> first | rfl | omega

theorem cachePolicy_congr {c : Config} {x y : Addr} (h : topByte x = topByte y) :
    cachePolicy c x = cachePolicy c y := by
  simp only [cachePolicy, h]

theorem toNat_and_div_congr {x y : Addr} (m : Addr) (h : ∀ i, 26 ≤ i → x.getLsbD i = y.getLsbD i) :
    (x &&& m).toNat / 2 ^ 26 = (y &&& m).toNat / 2 ^ 26 := by
  have hs : (x &&& m) >>> 26 = (y &&& m) >>> 26 := by
    apply BitVec.eq_of_getLsbD_eq
    intro i _
    simp only [BitVec.getLsbD_ushiftRight, BitVec.getLsbD_and, h (26 + i) (by omega)]
  have := congrArg BitVec.toNat hs
  simpa [BitVec.toNat_ushiftRight, Nat.shiftRight_eq_div_pow] using this

theorem getLsbD_lineAddr_tag (addr : Addr) {i : Nat} (hi : 10 ≤ i) :
    (lineAddr (tag addr)).getLsbD i = addr.getLsbD i := by
  simp only [lineAddr, tag, BitVec.getLsbD_append, BitVec.getLsbD_extractLsb]
  have h1 : ¬i < 10 := by omega
  have h2 : 10 + (i - 10) = i := by omega
  simp [h1, h2]
  intro h
  have := BitVec.lt_of_getLsbD h
  omega

end Sys2Proof.Machine
end

