-- ==== Sys2Proof/Laws/PerInstr.lean ====
section
/-! SUPPORT. Facts about every command as syntax, one lemma per constructor. -/

namespace Sys2Proof.Laws.EncodedOp

/-- The encoder writes the command's own op code (R66), and the command is well-formed. -/
def Statement (i : Instr) : Prop := opField (encode i) = i.op ∧ i.wf = true

theorem read (addr : Addr) : Statement (.read addr) := ⟨opField_packWord _ _ _, rfl⟩
theorem write (addr : Addr) : Statement (.write addr) := ⟨opField_packWord _ _ _, rfl⟩
theorem flush : Statement .flush := ⟨opField_packWord _ _ _, rfl⟩
theorem seten (b : Bool) : Statement (.seten b) := ⟨opField_packWord _ _ _, rfl⟩
theorem consume (n : Cycles) : Statement (.consume n) := ⟨opField_packWord _ _ _, rfl⟩
theorem reserved5 : Statement .reserved5 := ⟨opField_packWord _ _ _, rfl⟩
theorem reserved6 : Statement .reserved6 := ⟨opField_packWord _ _ _, rfl⟩
theorem reserved7 : Statement .reserved7 := ⟨opField_packWord _ _ _, rfl⟩

end Sys2Proof.Laws.EncodedOp
end

