-- ==== Sys2Proof/Tests/Slice0.lean ====
section
/-! SUPPORT. Tests and witnesses. The words and the expected values are those of spec/30_encoding.md,
spec/41_lru.md and spec/95_test_vectors.md (named in each docstring); a witness shows a state and operands that meet
the hypotheses of an obligation. -/

namespace Sys2Proof.Tests

open Sys2Proof Sys2Proof.Machine

/-! Helpers. -/

/-- The state an outcome answers, if it answers one. -/
def after (o : Host.Outcome State Fault Refusal) : Option State :=
  match o with
  | .next t => some t
  | .fault _ => none
  | .refused _ => none

/-- What a test looks at: the accumulator, the response, the four counts. -/
def seen (o : Host.Outcome State Fault Refusal) : Option (Nat × Response × List Nat) :=
  (after o).map fun t =>
    (t.acc, t.response, [t.cnt.reads.value, t.cnt.hits.value, t.cnt.misses.value, t.cnt.disabled.value])

/-- The LRU value and the four lines of an entry after an outcome. -/
def entryAfter (o : Host.Outcome State Fault Refusal) (e : EntryIx) : Option (LruBits × List Line) :=
  (after o).map fun t => (t.lruOf e, [t.line e 0, t.line e 1, t.line e 2, t.line e 3])

/-- Reset with 4-bit wait-state arithmetic. -/
def narrow : State := State.resetWith { defaultConfig with accWidth := some 4 }

/-- Reset with `AREA_ADDR_MASK = 0x1FFFFFFF`. -/
def masked : State := State.resetWith { defaultConfig with areaAddrMask := 0x1FFFFFFF }

/-- Reset with `ENABLE_GATING = BYPASS`. -/
def gated : State := State.resetWith { defaultConfig with enableGating := .bypass }

/-- Reset of the passthrough variant. -/
def stub : State := State.resetWith { defaultConfig with variant := .passthrough }

/-- Reset with a line of tag 0 valid in way 3 of entry 0. -/
def holding (dirty : Bool) (s : State) : State := s.setLine 0 3 ⟨true, dirty, 0⟩

/-- Reset with a clean line of address 0x80000000, which is WriteThrough, in way 3 of entry 0. -/
def holdingThrough (s : State) : State := s.setLine 0 3 ⟨true, false, 0x200000⟩

/-- Reset with an LRU value in entry 0 that is no total order (V130). -/
def badLru : State := State.reset.setLru 0 0x02

/-- A block that has faulted. -/
def faulted : State := State.reset.raiseFault .badOp

/-! Well-formedness: every check refuses an ill-formed term. -/

theorem test_wf_of_commands : ([.read 0, .write 0xFFFFFFFF, .flush, .seten true, .consume 0xFFFFFFFF, .reserved5,
    .reserved6, .reserved7] : List Instr).all Instr.wf = true := by decide

theorem test_line_refuses_wide_read_address : AsmLine.wf ⟨.READ, some (2 ^ 32)⟩ = false := by decide

theorem test_line_refuses_wide_write_address : AsmLine.wf ⟨.WRITE, some (2 ^ 32)⟩ = false := by decide

theorem test_line_refuses_wide_consume : AsmLine.wf ⟨.CONSUME, some (2 ^ 32)⟩ = false := by decide

theorem test_line_refuses_seten_two : AsmLine.wf ⟨.SETEN, some 2⟩ = false := by decide

theorem test_line_refuses_flush_operand : AsmLine.wf ⟨.FLUSH, some 0⟩ = false := by decide

theorem test_line_refuses_missing_operand :
    ([⟨.READ, none⟩, ⟨.WRITE, none⟩, ⟨.SETEN, none⟩, ⟨.CONSUME, none⟩] : List AsmLine).any AsmLine.wf = false := by
  decide

theorem test_line_refused_assembles_to_nothing : AsmLine.assemble ⟨.SETEN, some 2⟩ = none := by decide

theorem test_policy_code_three_refused : policyCodesWf (Vector.replicate 256 3) = false := by decide

/-! Decoding, from words written out by R65 and R66: op in bits 66..64, addr in 63..32, arg in 31..0. -/

/-- op 0, addr 0x80000100, arg ignored (P3). -/
theorem test_decode_read : decodeTableWord 67 0x080000100DEADBEEF = some (.read 0x80000100) := by decide

/-- op 1, addr 0x08000050 (P2). -/
theorem test_decode_write : decodeTableWord 67 0x10800005000000000 = some (.write 0x08000050) := by decide

/-- op 2, addr and arg ignored. -/
theorem test_decode_flush : decodeTableWord 67 0x2FFFFFFFFFFFFFFFF = some .flush := by decide

/-- op 3, arg bit 0 alone (V111). -/
theorem test_decode_seten : decodeTableWord 67 0x300000000FFFFFFFE = some (.seten false) := by decide

/-- op 3, arg bit 0 set (P3). -/
theorem test_decode_seten_one : decodeTableWord 67 0x3FFFFFFFF00000001 = some (.seten true) := by decide

/-- op 4, arg 0xFFFFFFFF (V98). -/
theorem test_decode_consume : decodeTableWord 67 0x400000000FFFFFFFF = some (.consume 0xFFFFFFFF) := by decide

/-- op 5 (P4). -/
theorem test_decode_reserved5 : decodeTableWord 67 0x50000100000000000 = some .reserved5 := by decide

/-- op 6. -/
theorem test_decode_reserved6 : decodeTableWord 67 0x60000000000000000 = some .reserved6 := by decide

/-- op 7 (V121). -/
theorem test_decode_reserved7 : decodeTableWord 67 0x70000123400000000 = some .reserved7 := by decide

/-- A whole number of bytes: 72 bits, the bits above 66 zero. -/
theorem test_decode_in_bytes : decodeTableWord 72 0x40000000000000005 = some (.consume 5) := by decide

/-- Bit 67 is no bit of a command word. -/
theorem test_decode_refuses_bit_67 : decodeTableWord 72 0x80000000000000000 = none := by decide

/-! One step of each command (95_test_vectors.md). -/

/-- V40. -/
theorem test_read_miss : seen (step (State.reset.withFetchWord 72 0x00000000000000000)) =
    some (10, .access false, [1, 0, 1, 0]) := by decide

/-- V131: a hit never consults `oldestWay`, and repairs the pattern. -/
theorem test_read_hit_on_an_invalid_pattern : entryAfter (exec (.read 0) (holding false badLru)) 0 =
    some (0x0B, [Line.reset, Line.reset, Line.reset, ⟨true, false, 0⟩]) := by decide

/-- V60. -/
theorem test_write_miss : seen (exec (.write 0x00000010) State.reset) = some (11, .access false, [1, 0, 1, 0]) := by
  decide

/-- V64, its WRITE alone: the WriteThrough hit pays the area cost and stays clean. -/
theorem test_write_through_hit : seen (exec (.write 0x80000000) (holdingThrough masked)) =
    some (11, .access true, [1, 1, 0, 0]) := by decide

/-- V81: the dirty line of area 0 costs 10; its tag is kept. -/
theorem test_flush : seen (exec .flush (holding true State.reset)) = some (10, .done, [0, 0, 0, 0]) := by decide +kernel

/-- V85: a dirty line of a reserved area is flushed at cost 0. -/
theorem test_flush_of_a_reserved_area :
    seen (exec .flush (State.reset.setLine 0 3 ⟨true, true, 0x010000⟩)) = some (0, .done, [0, 0, 0, 0]) := by
  decide +kernel

/-- V110. -/
theorem test_seten : (after (exec (.seten true) State.reset)).map (·.enabled) = some true := by decide

/-- V94: 5 pending, 7 cycles. -/
theorem test_consume_partial : seen (exec (.consume 7) (State.reset.setAcc 5)) = some (2, .remaining 0, [0, 0, 0, 0]) := by
  decide

/-- V98: 1 pending, the largest argument. -/
theorem test_consume_full : seen (exec (.consume 0xFFFFFFFF) (State.reset.setAcc 1)) =
    some (0, .remaining 0xFFFFFFFD, [0, 0, 0, 0]) := by decide

/-- V120. -/
theorem test_reserved5 : seen (exec .reserved5 State.reset) = some (0, .fault .badOp, [0, 0, 0, 0]) := by decide

theorem test_reserved6 : seen (exec .reserved6 State.reset) = some (0, .fault .badOp, [0, 0, 0, 0]) := by decide

/-- V121: the refusal carries the first cause. -/
theorem test_reserved7_then_read : seen (exec (.read 0) faulted) = some (0, .fault .badOp, [0, 0, 0, 0]) := by decide

/-- V122: the second READ would take the accumulator to 20. -/
theorem test_acc_overflow : seen (exec (.read 0x1000) (narrow.setAcc 10)) =
    some (10, .fault .accOverflow, [0, 0, 0, 0]) := by decide

/-- V132: LRU_INVALID comes before ACC_OVERFLOW. -/
theorem test_priority : seen (exec (.read 0) ((narrow.setAcc 15).setLru 0 0x02)) =
    some (15, .fault .lruInvalid, [0, 0, 0, 0]) := by decide

/-- V113: the gated READ charges the area cost and nothing else. -/
theorem test_gated_read : seen (exec (.read 0) gated) = some (10, .access false, [1, 0, 0, 1]) := by decide

/-! Classification and the LRU encoder. -/

/-- V12, V15, with the two masks. -/
theorem test_area : (area defaultConfig 0x8C000000, area masked.cfg 0x8C000000, area defaultConfig 0x12345678) =
    (7, 3, 4) := by decide

/-- V15. -/
theorem test_fields : (index 0x12345678, tag 0x12345678, lineAddr 0x048D15) = (0x67, 0x048D15, 0x12345400) := by decide

/-- S4: the policy at each boundary of the top byte. -/
theorem test_policy : [0x7FFFFFFF, 0x80000000, 0x9FFFFFFF, 0xA0000000, 0xBFFFFFFF, 0xC0000000, 0xDFFFFFFF,
    0xE0000000].map (cachePolicy defaultConfig) = [.writeBack, .writeThrough, .writeThrough, .disabled, .disabled,
    .writeBack, .writeBack, .disabled] := by decide

/-- V20 to V27. -/
theorem test_update_lru : [touched defaultConfig 0x00 3, touched defaultConfig 0x0B 2, touched defaultConfig 0x1E 1,
    touched defaultConfig 0x38 0, touched defaultConfig 0x3F 0, touched defaultConfig 0x00 0,
    touched defaultConfig 0x02 3, touched defaultConfig 0x2A 1] =
    [0x0B, 0x1E, 0x38, 0x00, 0x07, 0x00, 0x0B, 0x28] := by decide

/-- V28 to V32. -/
theorem test_oldest : [oldest 0x00, oldest 0x0B, oldest 0x1E, oldest 0x38, oldest 0x02] =
    [some 3, some 2, some 1, some 0, none] := by decide

/-! Witnesses: for each obligation with hypotheses, a state and operands that meet them all. -/

/-- DecodeOfEncodeIsTheCommand. -/
theorem witness_encode : (Instr.seten true).wf = true ∧ (Instr.read 0xFFFFFFFF).wf = true := by decide

/-- DecodeReadsOnlyTheFieldsACommandUses, clause by clause: different words that agree in the fields used. -/
theorem witness_ignored_fields :
    (opField 0x080000100DEADBEEF = 0 ∧ addrField 0x080000100DEADBEEF = addrField 0x08000010000000000) ∧
    (opField 0x3FFFFFFFFFFFFFFFF = 3 ∧
      (argField 0x3FFFFFFFFFFFFFFFF).getLsbD 0 = (argField 0x30000000000000001).getLsbD 0) ∧
    (opField 0x4FFFFFFFF00000064 = 4 ∧ argField 0x4FFFFFFFF00000064 = argField 0x40000000000000064) := by decide

/-- AssemblerLinesAssembleToTheirCommand. -/
theorem witness_assembler_lines : (Instr.read 0xFFFFFFFF).toAsm = some ⟨.READ, some 0xFFFFFFFF⟩ ∧
    Instr.flush.toAsm = some ⟨.FLUSH, none⟩ ∧ (Instr.seten true).toAsm = some ⟨.SETEN, some 1⟩ := by decide

/-- ConstructionRefusesExactlyReservedPolicyCodes, both clauses. -/
theorem witness_construction : construct (Vector.replicate 256 3) defaultConfig = none ∧
    (construct (Vector.replicate 256 2) defaultConfig).isSome = true := by decide +kernel

/-- CachePolicyIsThePolicyOfTheTopByte, at the last top byte. -/
theorem witness_top_byte : ((0xFFFFFFFF : Addr).extractLsb 31 24).toNat < 256 := by decide

/-- DefaultAreaCostsFallOnWriteBackAddressesOnly, at the last address of area 0. -/
theorem witness_costly_address : areaWaitStates defaultConfig (area defaultConfig 0x03FFFFFF) ≠ 0 := by decide

/-- OffsetBitsChangeNoAccess. -/
theorem witness_offset_bits : (0x0000001F : Addr).extractLsb 31 4 = (0x00000010 : Addr).extractLsb 31 4 := by decide

/-- OldestTableHoldsTheLeastRecentWay and FourAllocationsUseFourDistinctWays: a total order, and a pattern that is
none. -/
theorem witness_orders : TotalOrder 0x00 ∧ TotalOrder 0x3F ∧ ¬TotalOrder 0x02 ∧ oldest 0x3F = some 0 := by decide

/-- UpdateLruMakesTheWayNewestAndKeepsTheRest. -/
theorem witness_default_masks : State.reset.cfg.lruAnd = defaultLruAnd ∧ State.reset.cfg.lruOr = defaultLruOr := by
  decide

/-- DisabledPathChargesTheAreaCostAndSkipsTheCache: by policy, and by gating with the accumulator filled to its width. -/
theorem witness_disabled_path :
    (State.reset.Ready ∧ State.reset.Bypassed 0xA0000000 ∧
      State.reset.Absorbs (State.reset.areaCost 0xA0000000)) ∧
    (gated.Ready ∧ gated.Bypassed 0 ∧ gated.Absorbs (gated.areaCost 0)) ∧
    (narrow.setAcc 15).Absorbs ((narrow.setAcc 15).areaCost 0xA0000000) := by decide

/-- ReadHitChargesTurnaroundAndRefreshesTheWay, at the accumulator's last value. -/
theorem witness_read_hit : let s := (holding false narrow).setAcc 15
    s.Ready ∧ s.Cacheable 0 ∧ s.lookup (index 0) (tag 0) = some 3 ∧ s.Absorbs (s.turn false 0) := by decide

/-- ReadMissInstallsACleanLineInTheOldestWay: 5 pending, 10 charged, 15 fits. -/
theorem witness_read_miss : let s := narrow.setAcc 5
    s.Ready ∧ s.Cacheable 0 ∧ s.lookup (index 0) (tag 0) = none ∧ s.oldestWay (index 0) = some 3 ∧
      s.Absorbs (s.turn false 0 + s.areaCost 0 + 0) := by decide

/-- The same with a charged dirty victim (V47). -/
theorem witness_read_miss_charged :
    let s := holding true (State.resetWith { defaultConfig with readEvictDirtyCharge := true })
    s.Ready ∧ s.Cacheable 0x1000 ∧ s.lookup (index 0x1000) (tag 0x1000) = none ∧
      s.oldestWay (index 0x1000) = some 3 ∧ s.cfg.readEvictDirtyCharge = true ∧
      (s.line (index 0x1000) 3).valid = true ∧ (s.line (index 0x1000) 3).dirty = true ∧
      s.Absorbs (s.turn false 0x1000 + s.areaCost 0x1000 + s.areaCost (lineAddr 0)) := by decide

/-- WriteHitPaysTheAreaCostExactlyUnderWriteThrough, under both policies. -/
theorem witness_write_hit :
    (let s := holding false State.reset;
      s.Ready ∧ s.Cacheable 0 ∧ s.lookup (index 0) (tag 0) = some 3 ∧ cachePolicy s.cfg 0 = .writeBack ∧
        s.Absorbs (s.turn true 0 + 0)) ∧
    (let s := holdingThrough masked;
      s.Ready ∧ s.Cacheable 0x80000000 ∧ s.lookup (index 0x80000000) (tag 0x80000000) = some 3 ∧
        cachePolicy s.cfg 0x80000000 = .writeThrough ∧ s.Absorbs (s.turn true 0x80000000 + s.areaCost 0x80000000)) := by
  decide

/-- WriteThroughMissBypassesTheCache, on a pattern that is no total order too. -/
theorem witness_write_through_miss : let s := badLru
    s.Ready ∧ s.Cacheable 0x80000000 ∧ cachePolicy s.cfg 0x80000000 = .writeThrough ∧
      s.lookup (index 0x80000000) (tag 0x80000000) = none ∧
      s.Absorbs (s.turn true 0x80000000 + s.areaCost 0x80000000) := by decide

/-- WriteBackMissChargesTheVictimsAreaAndInstallsADirtyLine, with a dirty victim (V66). -/
theorem witness_write_back_miss : let s := holding true State.reset
    s.Ready ∧ s.Cacheable 0x1000 ∧ cachePolicy s.cfg 0x1000 = .writeBack ∧
      s.lookup (index 0x1000) (tag 0x1000) = none ∧ s.oldestWay (index 0x1000) = some 3 ∧
      (s.line (index 0x1000) 3).valid = true ∧ (s.line (index 0x1000) 3).dirty = true ∧
      s.Absorbs (s.turn true 0x1000 + s.areaCost 0x1000 + s.areaCost (lineAddr 0)) := by decide

/-- AllocatingMissOnAnInvalidPatternRaisesLruInvalid, for a READ and for a WRITE (V130). -/
theorem witness_lru_invalid : badLru.Ready ∧ badLru.Allocates false 0 ∧ badLru.Allocates true 0 ∧
    ¬TotalOrder (badLru.lruOf (index 0)) := by decide

/-- ChargePastTheAccumulatorWidthRaisesAccOverflow: an access one past the width, and a FLUSH. -/
theorem witness_acc_overflow :
    ((narrow.setAcc 6).Ready ∧ TotalOrder ((narrow.setAcc 6).lruOf (index 0)) ∧
      ¬(narrow.setAcc 6).Absorbs ((narrow.setAcc 6).accessCharge false 0)) ∧
    ((holding true (narrow.setAcc 6)).Ready ∧
      ¬(holding true (narrow.setAcc 6)).Absorbs (holding true (narrow.setAcc 6)).flushCost) := by decide +kernel

/-- AccessCompletesAndAddsItsTotalCharge: an allocating WRITE, and a WRITE that allocates nothing on a pattern that is
no total order. -/
theorem witness_access_completes :
    (State.reset.Ready ∧ TotalOrder (State.reset.lruOf (index 0)) ∧
      State.reset.Absorbs (State.reset.accessCharge true 0)) ∧
    (badLru.Ready ∧ ¬badLru.Allocates true 0x80000000 ∧ badLru.Absorbs (badLru.accessCharge true 0x80000000)) := by
  decide

/-- AccessChargesAreBounded: the default costs are at most 10, and an access answers a state, a hit among them. -/
theorem witness_access_bounds : State.reset.Ready ∧ (∀ a, areaWaitStates State.reset.cfg a ≤ 10) ∧
    (after (exec (accessOf true 0) State.reset)).isSome = true ∧ State.reset.Bypassed 0xFFFFFFFF ∧
    (after (exec (accessOf false 0) (holding false State.reset))).map (·.response) = some (.access true) := by decide

/-- AccessTouchesOneLineOfItsEntryAtMost, its line clause: a WRITE hit and an allocating READ change a line. -/
theorem witness_access_changes_a_line :
    (after (exec (accessOf true 0) (holding false State.reset))).map
      (fun t => decide (t.line 0 3 ≠ (holding false State.reset).line 0 3)) = some true ∧
    (after (exec (accessOf false 0) State.reset)).map
      (fun t => decide (t.line 0 3 ≠ State.reset.line 0 3)) = some true := by decide

/-- The same, its LRU clause: a READ hit and an allocating WRITE in the last entry change an LRU value. -/
theorem witness_access_changes_an_lru_value :
    (after (exec (accessOf false 0) (holding false State.reset))).map
      (fun t => decide (t.lruOf 0 ≠ State.reset.lruOf 0)) = some true ∧
    (after (exec (accessOf true 0x00000FF0) State.reset)).map
      (fun t => decide (t.lruOf 255 ≠ State.reset.lruOf 255)) = some true := by decide

/-- RepeatedReadHitsForFree. -/
theorem witness_repeated_read : State.reset.Ready ∧ State.reset.Cacheable 0 ∧
    (after (exec (.read 0) State.reset)).map (·.fault) = some false := by decide

/-- MissVictimIsAlwaysTheOldestWay: a miss with every way invalid, and one after a FLUSH of a dirty line. -/
theorem witness_miss_victim :
    (State.reset.Ready ∧ State.reset.Allocates true 0 ∧ State.reset.oldestWay (index 0) = some 3 ∧
      (after (exec (accessOf true 0) State.reset)).map (·.fault) = some false) ∧
    (let s := holding true (State.reset.setLru 0 0x0B);
      s.Ready ∧ s.Cacheable 0x2000 ∧ cachePolicy s.cfg 0x2000 = .writeBack ∧ s.oldestWay (index 0x2000) = some 2 ∧
        (after (exec .flush s)).map (fun t => (t.fault, decide (t.Absorbs (t.turn true 0x2000 + t.areaCost 0x2000)))) =
          some (false, true)) := by decide +kernel

/-- FlushChargesTheSumOverDirtyLinesAndInvalidatesAll, in its sum form: with no dirty line the sum is 0. -/
theorem witness_flush : State.reset.Ready ∧ (∀ n, State.reset.Absorbs n) := ⟨by decide, fun _ => rfl⟩

/-- FlushedCacheHoldsNothing, from a cache with a dirty line. -/
theorem witness_flushed : (holding true State.reset).Ready ∧
    (after (exec .flush (holding true State.reset))).map (·.fault) = some false := by decide +kernel

/-- ConsumeOfAnEmptyAccumulatorReturnsItsArgument. -/
theorem witness_consume_empty : State.reset.fault = false ∧ State.reset.acc = 0 := by decide

/-- ConsumeWithEnoughCyclesDrainsFully, at its threshold (V100). -/
theorem witness_consume_full : (State.reset.setAcc 7).fault = false ∧ 0 < (State.reset.setAcc 7).acc ∧
    2 * (State.reset.setAcc 7).acc ≤ (14 : Cycles).toNat := by decide

/-- ConsumeWithTooFewCyclesDrainsPartly, one below the threshold (V99). -/
theorem witness_consume_part : (State.reset.setAcc 7).fault = false ∧ 0 < (State.reset.setAcc 7).acc ∧
    (13 : Cycles).toNat < 2 * (State.reset.setAcc 7).acc := by decide

/-- RepeatedConsumeEmptiesTheAccumulator, both clauses. -/
theorem witness_consume_repeated : (State.reset.setAcc 2).fault = false ∧
    (∀ n ∈ ([2, 3] : List Cycles), 2 ≤ n.toNat) ∧ (State.reset.setAcc 2).acc ≤ ([2, 3] : List Cycles).length ∧
    (∀ n ∈ ([0, 1] : List Cycles), n.toNat ≤ 1) := by
  refine ⟨rfl, ?_, by decide, ?_⟩ <;> simp

/-- EnableFlagIsUnreadWithoutGating. -/
theorem witness_enable_unread : State.reset.cfg.enableGating = .none ∧ ∀ b', Instr.read 0 ≠ .seten b' := by decide

/-- SetenStoresItsArgument and ReservedOpCodesRaiseBadOp. -/
theorem witness_not_faulted : State.reset.fault = false ∧ stub.fault = false := by decide

/-- PassthroughCommandsChangeNothing. -/
theorem witness_stub : stub.fault = false ∧ stub.cfg.variant = .passthrough ∧ stub.acc = 0 := by decide

/-- FaultedBlockRefusesEveryCommand. -/
theorem witness_faulted : faulted.fault = true := by decide

/-- NoFaultWithSoundLruAndUnboundedAccumulator: the LRU values at reset are total orders. -/
theorem witness_no_fault : LruSound State.reset ∧ State.reset.cfg.accWidth = none ∧ State.reset.fault = false := by
  refine ⟨fun e => ?_, rfl, rfl⟩
  have h : State.reset.lruOf e = 0 := by simp [State.lruOf, State.reset, State.resetWith]
  rw [h]
  decide

/-- OnlyResetLeavesTheFaultState: a faulted block with the reset input at the port answers a state that is not faulted. -/
theorem witness_reset_input : let s : State := { faulted with port := [.resetInput] }
    s.fault = true ∧ s.port = .resetInput :: [] ∧ (after (step s)).map (·.fault) = some false := by decide

/-- OnlyConsumeLowersTheAccumulator: a CONSUME that lowers it, a READ that raises it. -/
theorem witness_acc_moves :
    (after (exec (.consume 14) (State.reset.setAcc 7))).map (fun t => decide (t.acc < 7)) = some true ∧
    (after (exec (.read 0) State.reset)).map (fun t => decide (0 < t.acc)) = some true := by decide

/-- OnlyAccessesCountAndOnlyFlushClears: a READ that counts, with no count past its width. -/
theorem witness_count_moves : (after (exec (.read 0) State.reset)).map
    (fun t => (decide (t.cnt ≠ State.reset.cnt), t.cnt.reads.past, t.cnt.misses.past)) = some (true, false, false) := by
  decide

/-- NoStepChangesTheConfiguration: a step answers a state. -/
theorem witness_step : (after (step (State.reset.withFetchWord 72 0x10000000000000000))).isSome = true := by decide

/-- CountersInfluenceNothing: two different states that differ in a counter, with a READ presented. -/
theorem witness_counters : let s := State.reset.withFetchWord 72 0
    s.cfg.variant = .timing ∧ SameButCounters s s.countRead ∧ s ≠ s.countRead ∧ (after (step s)).isSome = true := by
  refine ⟨rfl, rfl, fun h => ?_, by decide⟩
  exact absurd (congrArg (fun s => s.cnt.reads.value) h) (by decide)

/-- TagsOfInvalidLinesInfluenceNothing: two different states that differ in the tag of an invalid line, with a READ of
that tag's address presented. -/
theorem witness_invalid_tags : let s := State.reset.withFetchWord 72 0x00000100000000000
    SameButInvalidTags s (s.setLine 0 3 ⟨false, false, 4⟩) ∧ s ≠ s.setLine 0 3 ⟨false, false, 4⟩ ∧
      (after (step s)).isSome = true := by
  refine ⟨⟨rfl, fun e w => ?_⟩, fun h => ?_, by decide⟩
  · have h : (State.reset.withFetchWord 72 0x00000100000000000).line e w = Line.reset := by
      simp [State.line, State.withFetchWord, State.present, State.reset, State.resetWith]
    rw [State.line_setLine, h]
    split <;> simp [Line.reset]
  · exact absurd (congrArg (fun s => s.line 0 3) h) (by decide)

/-- StepExecutesTheDecodedCommand, every clause. -/
theorem witness_step_executes : (State.reset.withFetchWord 72 0x20000000000000000).port =
      .command 0x20000000000000000 :: [] ∧
    State.reset.port = [] ∧ decodeTableWord 72 0x20000000000000000 = some .flush := by decide

/-- EveryStepKeepsTheLinesSound: a state that holds a valid line meets the invariant, and a WRITE is presented. -/
theorem witness_lines_sound : let s := (holding true State.reset).withFetchWord 72 0x10000100000000000
    LinesSound s ∧ (after (step s)).isSome = true := by
  have hl : ∀ e w, ((holding true State.reset).withFetchWord 72 0x10000100000000000).line e w =
      if e = 0 ∧ w = 3 then ⟨true, true, 0⟩ else Line.reset := by
    intro e w
    have h : State.reset.line e w = Line.reset := by simp [State.line, State.reset, State.resetWith]
    exact (State.line_setLine State.reset 0 3 ⟨true, true, 0⟩ e w).trans (by rw [h])
  have hp : cachePolicy defaultConfig (lineAddr 0) = .writeBack := by decide
  refine ⟨⟨?_, ?_, ?_, ?_, ?_⟩, by decide⟩
  · intro e w w' h h' _
    rw [hl] at h h'
    split at h
    · split at h'
      · exact ‹e = 0 ∧ w = 3›.2.trans ‹e = 0 ∧ w' = 3›.2.symm
      · cases h'
    · cases h
  · intro e w h
    rw [hl] at h ⊢
    split at h
    · rw [if_pos ‹_›]
    · cases h
  · intro e w h
    rw [hl] at h ⊢
    split at h
    · exact absurd (hp.symm.trans h) (by decide)
    · rw [if_neg ‹_›]
      rfl
  · intro e w h hd
    rw [hl] at h hd
    split at h
    · rw [if_pos ‹_›] at hd
      exact absurd (hp.symm.trans hd) (by decide)
    · cases h
  · intro e w h
    rw [hl] at h ⊢
    split at h
    · rw [if_pos ‹_›, ‹e = 0 ∧ w = 3›.1]
      decide
    · cases h

/-- EveryStepKeepsTheLruSound: the default masks are closed (R87). -/
theorem witness_masks_closed : MasksClosed State.reset.cfg := by
  show MasksClosed defaultConfig
  unfold MasksClosed
  decide

/-- EveryStepKeepsTheRegistersSound: a reset block with wait states pending, at the last value of a finite width, and the
stub. -/
theorem witness_registers_sound : RegistersSound (narrow.setAcc 15) ∧ RegistersSound stub := by
  have hv : (narrow.setAcc 15).cfg.variant ≠ .passthrough := fun h => nomatch (show Variant.timing = .passthrough from h)
  constructor
  · exact ⟨rfl, by decide, fun _ => rfl, fun _ => rfl, fun _ => rfl, fun _ => rfl, fun h => (hv h).elim,
      fun h => (hv h).elim, fun h => (hv h).elim⟩
  · exact ⟨rfl, by decide, fun _ => rfl, fun _ => rfl, fun _ => rfl, fun _ => rfl, fun _ => rfl, fun _ => rfl,
      fun _ e w => by simp [State.line, stub, State.resetWith]⟩

end Sys2Proof.Tests
end

