-- ==== Sys2Proof/Proofs/Classification.lean ====
section
/-! PROOF. R76: the policy of an address is the map's entry at its top byte, and the default map (R32) is constant on
five ranges of addresses. -/

namespace Sys2Proof.Machine

theorem length_defaultPolicyList : defaultPolicyList.length = 256 := defaultPolicyMap.size_toArray

/-- R32: the entries of the default map, by the ranges of the index. -/
theorem getElem_defaultPolicyList (i : Nat) (hi : i < defaultPolicyList.length) : defaultPolicyList[i] =
    if i < 128 then .writeBack
    else if i < 160 then .writeThrough
    else if i < 192 then .disabled
    else if i < 224 then .writeBack
    else .disabled := by
  simp only [defaultPolicyList, List.getElem_append, List.getElem_replicate, List.length_append, List.length_replicate]
  grind

theorem toNat_topByte (addr : Addr) : (topByte addr).toNat = addr.toNat / 2 ^ 24 := by
  have := addr.isLt
  simp only [topByte, BitVec.extractLsb_toNat, Nat.shiftRight_eq_div_pow]
  omega

/-- An address lies below a boundary whose low 24 bits are zero exactly when its top byte does. -/
theorem toNat_topByte_lt_iff (addr : Addr) (b : Nat) (hb : b < 256) :
    (topByte addr).toNat < b ↔ addr < BitVec.ofNat 32 (b * 2 ^ 24) := by
  rw [toNat_topByte, Nat.div_lt_iff_lt_mul (by decide), BitVec.lt_def, BitVec.toNat_ofNat, Nat.mod_eq_of_lt (by omega)]

/-- R76 with R32: the policy of an address in the default profile. -/
theorem cachePolicy_defaultConfig (addr : Addr) : cachePolicy defaultConfig addr =
    if addr < 0x80000000#32 then .writeBack
    else if addr < 0xA0000000#32 then .writeThrough
    else if addr < 0xC0000000#32 then .disabled
    else if addr < 0xE0000000#32 then .writeBack
    else .disabled := by
  have hlookup : cachePolicy defaultConfig addr =
      defaultPolicyList[(topByte addr).toNat]'(length_defaultPolicyList.symm ▸ (topByte addr).isLt) := rfl
  rw [hlookup, getElem_defaultPolicyList]
  simp only [toNat_topByte_lt_iff, Nat.reduceLT, Nat.reduceMul, Nat.reducePow]

/-- Settles O8: the lookup is the definition of `cachePolicy` at `topByte`; the five ranges are those of the default
map's index, carried to addresses by `toNat_topByte_lt_iff`. -/
theorem cachePolicyIsThePolicyOfTheTopByte : Obligations.CachePolicyIsThePolicyOfTheTopByte :=
  ⟨fun _ _ _ => rfl, cachePolicy_defaultConfig⟩

end Sys2Proof.Machine
end

section
/-! PROOF. R91 and R94: READ and WRITE as one operation with a direction. Its allocating miss comes to one state,
`State.allocated`, whose line array and accumulator are read off once; FLUSH comes to `State.flushedAll`. -/

namespace Sys2Proof.Machine

/-! The turnaround step, R91. -/

/-- The charge is free exactly when neither the direction nor the area changes. -/
theorem turnaroundCharge_eq (prevWrite : Bool) (prevArea : AreaCode) (isWrite : Bool) (a : AreaCode) :
    turnaroundCharge prevWrite prevArea isWrite a = if prevWrite = isWrite ∧ prevArea = a then 0 else 1 := by
  by_cases h : prevWrite = isWrite ∧ prevArea = a
  · simp [turnaroundCharge, h]
  · rw [if_neg h, turnaroundCharge, if_pos]
    simpa [-not_and, not_and_or] using h

/-- Settles O24: the charge is 0 or 1 by `turnaroundCharge_eq`, and the rest of the step is its definition. -/
theorem turnaroundChargesOneForAChangeAndRecordsTheAccess :
    Obligations.TurnaroundChargesOneForAChangeAndRecordsTheAccess := by
  intro s isWrite a
  have hacc : s.acc + turnaroundCharge s.prevWrite s.prevArea isWrite a =
      if s.prevWrite ≠ isWrite ∨ s.prevArea ≠ a then s.acc + 1 else s.acc := by
    simp only [turnaroundCharge_eq, ne_eq, ← not_and_or, ite_not]
    split_ifs <;> rfl
  rw [← hacc]
  rfl

/-! Installing a line, R92, R102. -/

section install
variable (s : State) (e : EntryIx) (v : Way) (l : Line)

@[simp] theorem State.install_acc : (s.install e v l).acc = s.acc := rfl
@[simp] theorem State.install_cfg : (s.install e v l).cfg = s.cfg := rfl

theorem State.line_install (e' : EntryIx) (w' : Way) :
    (s.install e v l).line e' w' = if e' = e ∧ w' = v then l else s.line e' w' := by
  simp only [State.install, State.line_setLine, State.updateLru_line]

end install

/-! READ and WRITE as one operation. -/

/-- READ or WRITE of `addr` under the timing rules. -/
def accessTiming (isWrite : Bool) (addr : Addr) (s : State) : Effect :=
  if isWrite then writeTiming addr s else readTiming addr s

/-- What an access charges for its victim `v`: a WRITE its write-back (R101), a READ only where so configured (R95). -/
def State.victimCharge (s : State) (isWrite : Bool) (addr : Addr) (v : Way) : Nat :=
  if isWrite = true ∨ s.cfg.readEvictDirtyCharge = true then writeBackCost s.cfg (s.line (index addr) v) else 0

/-- The state an access that allocates way `v` leaves, R92, R102. -/
def State.allocated (s : State) (isWrite : Bool) (addr : Addr) (v : Way) : State :=
  (((((s.countRead.turnaround isWrite (area s.cfg addr)).countMiss).charge (s.areaCost addr)).charge
    (s.victimCharge isWrite addr v)).install (index addr) v ⟨true, isWrite, tag addr⟩).respond (.access false)

section access
variable {s t : State} {isWrite : Bool} {addr : Addr} {v : Way}

theorem takesDisabledPath_eq_false : s.takesDisabledPath addr = false ↔ s.Cacheable addr := by
  rw [← Bool.not_eq_true, takesDisabledPath_eq_true, State.Cacheable]
  cases s.cfg.enableGating with
  | none => simp
  | bypass => simp [and_comm]

/-- A command that leaves no fault was not refused and completed by its own rule. -/
theorem effectOf_of_exec {i : Instr} (h : exec i s = .next t) (hf : t.fault = false) : effectOf i s = .ok t := by
  rcases exec_cases h with ⟨hs, rfl⟩ | ⟨_, he⟩ | ⟨_, c, _, _, rfl⟩
  · simp [hs] at hf
  · exact he
  · simp at hf

theorem effectOf_accessOf (h : s.Ready) :
    effectOf (accessOf isWrite addr) s = (accessTiming isWrite addr s).accChecked := by
  obtain ⟨_, hv⟩ := h
  cases isWrite <;> exact State.byVariant_timing hv _ _

/-- An access that leaves no fault leaves what the timing rules give. -/
theorem accessTiming_of_exec (h : s.Ready) (hx : exec (accessOf isWrite addr) s = .next t) (hf : t.fault = false) :
    accessTiming isWrite addr s = .ok t := by
  have he := effectOf_of_exec hx hf
  rw [effectOf_accessOf h] at he
  exact (Effect.accChecked_cases he).1

/-- An access completes with what the timing rules give, if its accumulator fits. -/
theorem exec_accessOf_ok (h : s.Ready) (ht : accessTiming isWrite addr s = .ok t)
    (hfit : fitsWidth t.cfg.accWidth t.acc = true) : exec (accessOf isWrite addr) s = .next t := by
  rw [exec_eq_run, effectOf_accessOf h, ht, Effect.accChecked_ok hfit, State.run_ok h.1]

/-- An access that allocates takes the way `oldestWay` gives. -/
theorem accessTiming_allocates (h : s.Allocates isWrite addr) (ho : s.oldestWay (index addr) = some v) :
    accessTiming isWrite addr s = .ok (s.allocated isWrite addr v) := by
  obtain ⟨hc, hl, hp⟩ := h
  have hd := takesDisabledPath_eq_false.mpr hc
  cases isWrite with
  | true => simp [accessTiming, State.allocated, State.victimCharge, writeTiming_miss hd hl (hp rfl) ho]
  | false => simp [accessTiming, State.allocated, State.victimCharge, readTiming_miss hd hl ho]

variable (s isWrite addr v)

@[simp] theorem State.allocated_response : (s.allocated isWrite addr v).response = .access false := rfl
@[simp] theorem State.allocated_cfg : (s.allocated isWrite addr v).cfg = s.cfg := rfl

theorem State.allocated_acc : (s.allocated isWrite addr v).acc =
    s.acc + (s.turn isWrite addr + s.areaCost addr) + s.victimCharge isWrite addr v := by
  simp [State.allocated, turnaroundCharge_eq, Nat.add_assoc]

theorem State.line_allocated_victim :
    (s.allocated isWrite addr v).line (index addr) v = ⟨true, isWrite, tag addr⟩ := by
  simp [State.allocated, State.line_install]

theorem State.line_allocated_other : SameLinesBut s (s.allocated isWrite addr v) (index addr) v := by
  intro e w hne
  simp [State.allocated, State.line_install, hne]

end access

/-! FLUSH, R106. -/

/-- The state FLUSH leaves, R106 to R108. -/
def State.flushedAll (s : State) : State := (((s.charge s.flushCost).clearLines).clearCounters).respond .done

section flush
variable {s t : State} {isWrite : Bool} {addr : Addr}

/-- A FLUSH that leaves no fault leaves what the timing rules give. -/
theorem eq_flushedAll_of_exec (h : s.Ready) (hx : exec .flush s = .next t) (hf : t.fault = false) :
    t = s.flushedAll := by
  have he : s.byVariant (flushTiming s).accChecked _ = .ok t := effectOf_of_exec hx hf
  rw [State.byVariant_timing h.2] at he
  obtain ⟨hok, _⟩ := Effect.accChecked_cases he
  injection hok with hok
  exact hok.symm

variable (s)

@[simp] theorem State.flushedAll_cfg : s.flushedAll.cfg = s.cfg := rfl
@[simp] theorem State.flushedAll_enabled : s.flushedAll.enabled = s.enabled := rfl
@[simp] theorem State.flushedAll_fault : s.flushedAll.fault = s.fault := rfl
@[simp] theorem State.flushedAll_oldestWay (e : EntryIx) : s.flushedAll.oldestWay e = s.oldestWay e := rfl

@[simp] theorem State.line_flushedAll (e : EntryIx) (w : Way) : s.flushedAll.line e w = (s.line e w).flushed := by
  simp [State.flushedAll]

theorem State.lookup_flushedAll (e : EntryIx) (t : Tag) : s.flushedAll.lookup e t = none := by
  rw [State.lookup_eq_none]
  simp [Line.flushed]

/-- After a FLUSH every victim is clean, so evicting it is free. -/
theorem State.victimCharge_flushedAll (isWrite : Bool) (addr : Addr) (v : Way) :
    s.flushedAll.victimCharge isWrite addr v = 0 := by
  simp [State.victimCharge, writeBackCost, Line.pending, Line.flushed]

variable {s}

/-- After a FLUSH every cacheable access misses, and one that is not written through allocates. -/
theorem State.flushedAll_allocates (hc : s.Cacheable addr) (hp : isWrite = true → cachePolicy s.cfg addr = .writeBack) :
    s.flushedAll.Allocates isWrite addr :=
  ⟨hc, s.lookup_flushedAll _ _, fun hw => by simp [hp hw]⟩

end flush

/-! The victim of an allocating miss, R94. -/

/-- Settles O31: an allocating miss leaves `State.allocated` at the way `oldestWay` gives; FLUSH keeps the LRU value that
`oldestWay` reads, and makes every cacheable access of a policy that allocates a miss. -/
theorem missVictimIsAlwaysTheOldestWay : Obligations.MissVictimIsAlwaysTheOldestWay := by
  constructor
  · intro s t isWrite addr v hs hall ho hx hf
    have ht := accessTiming_of_exec hs hx hf
    rw [accessTiming_allocates hall ho] at ht
    injection ht with ht
    subst ht
    exact ⟨s.line_allocated_victim isWrite addr v, s.line_allocated_other isWrite addr v⟩
  · intro s t isWrite addr v hs hc hp ho hx hf habs
    obtain rfl := eq_flushedAll_of_exec hs hx hf
    refine ⟨s.flushedAll.allocated isWrite addr v, ?_, rfl,
      s.flushedAll.line_allocated_victim isWrite addr v, s.flushedAll.line_allocated_other isWrite addr v⟩
    have hall : s.flushedAll.Allocates isWrite addr := State.flushedAll_allocates hc hp
    refine exec_accessOf_ok hs (accessTiming_allocates hall ho) ?_
    rw [State.allocated_acc, State.victimCharge_flushedAll]
    exact habs

end Sys2Proof.Machine
end

section
/-! PROOF. R110 and R111: one equation for an executed CONSUME, and what the drain gives for an empty accumulator and
for one that is drained in full. -/

namespace Sys2Proof.Machine

theorem State.byVariant_self (s : State) (r : Effect) : s.byVariant r r = r := by
  cases hv : s.cfg.variant with
  | timing => exact State.byVariant_timing hv r r
  | passthrough => exact State.byVariant_passthrough hv r r

theorem State.setAcc_self (s : State) : s.setAcc s.acc = s := rfl

/-- R109: an unfaulted block answers every CONSUME, in both variants. -/
theorem exec_consume {s : State} (n : Cycles) (h : s.fault = false) : exec (.consume n) s =
    .next ((s.setAcc (accAfterDrain s.acc n)).respond (.remaining (remainingCycles s.acc n))) := by
  have he : effectOf (.consume n) s = drained n s := s.byVariant_self _
  rw [exec_eq_run, he]
  exact State.run_ok h

section drain
variable {acc : Nat} {n : Cycles}

@[simp] theorem accAfterDrain_zero (n : Cycles) : accAfterDrain 0 n = 0 := rfl

@[simp] theorem remainingCycles_zero (n : Cycles) : remainingCycles 0 n = n := rfl

theorem accAfterDrain_of_le (h : 2 * acc ≤ n.toNat) : accAfterDrain acc n = 0 := by
  simp [accAfterDrain, drainRatio, h]

/-- R111: the rest is exact, since it is at most `n`. -/
theorem toNat_remainingCycles_of_le (hpos : 0 < acc) (h : 2 * acc ≤ n.toNat) :
    (remainingCycles acc n).toNat = n.toNat - 2 * acc := by
  have hlt : n.toNat - 2 * acc < 2 ^ 32 := by omega
  rw [remainingCycles, if_neg hpos.ne', drainRatio, if_pos h, BitVec.toNat_ofNat, Nat.mod_eq_of_lt hlt]

end drain

/-- Settles O34: `exec_consume` at an empty accumulator, whose drain keeps it and gives `n` back. -/
theorem consumeOfAnEmptyAccumulatorReturnsItsArgument :
    Obligations.ConsumeOfAnEmptyAccumulatorReturnsItsArgument := by
  intro s n hf hacc
  have hdrain : accAfterDrain s.acc n = s.acc := by rw [hacc, accAfterDrain_zero]
  have hrest : remainingCycles s.acc n = n := by rw [hacc, remainingCycles_zero]
  rw [exec_consume n hf, hdrain, hrest, s.setAcc_self]
  rfl

/-- Settles O35: the rest is `remainingCycles`, exact by `toNat_remainingCycles_of_le`; the state is that of
`exec_consume` with nothing left pending. -/
theorem consumeWithEnoughCyclesDrainsFully : Obligations.ConsumeWithEnoughCyclesDrainsFully := by
  intro s n hf hpos hle
  refine ⟨remainingCycles s.acc n, toNat_remainingCycles_of_le hpos hle, ?_⟩
  rw [exec_consume n hf, accAfterDrain_of_le hle]
  rfl

end Sys2Proof.Machine
end

section
/-! PROOF. The command word and the assembler lines (R65 to R70): the decoder by op code, the rows of the opcode
table as op codes, and the round trips. -/

namespace Sys2Proof

/-! The decoder by op code, R66, R67. -/

section decode
variable {w : CommandWord}

theorem decode_of_op_read (h : opField w = 0) : decode w = .read (addrField w) := by simp [decode, h]
theorem decode_of_op_write (h : opField w = 1) : decode w = .write (addrField w) := by simp [decode, h]
theorem decode_of_op_flush (h : opField w = 2) : decode w = .flush := by simp [decode, h]
theorem decode_of_op_seten (h : opField w = 3) : decode w = .seten (enableBit (argField w)) := by simp [decode, h]
theorem decode_of_op_consume (h : opField w = 4) : decode w = .consume (argField w) := by simp [decode, h]
theorem decode_of_op_reserved5 (h : opField w = 5) : decode w = .reserved5 := by simp [decode, h]
theorem decode_of_op_reserved6 (h : opField w = 6) : decode w = .reserved6 := by simp [decode, h]
theorem decode_of_op_reserved7 (h : opField w = 7) : decode w = .reserved7 := by simp [decode, h]

end decode

/-- SETEN's argument is read back from the bit it is written to, R67. -/
theorem enableBit_ite (b : Bool) : enableBit (if b then 1 else 0) = b := by
  cases b <;> rfl

/-- Settles O1: the encoder writes the command's op code and its operand's field; the decoder selects by the one and
reads the other. -/
theorem decodeOfEncodeIsTheCommand : Obligations.DecodeOfEncodeIsTheCommand := by
  intro i _
  cases i with
  | read addr => rw [encode, decode_of_op_read (opField_packWord _ _ _), addrField_packWord]
  | write addr => rw [encode, decode_of_op_write (opField_packWord _ _ _), addrField_packWord]
  | flush => exact decode_of_op_flush (opField_packWord _ _ _)
  | seten b => rw [encode, decode_of_op_seten (opField_packWord _ _ _), argField_packWord, enableBit_ite]
  | consume n => rw [encode, decode_of_op_consume (opField_packWord _ _ _), argField_packWord]
  | reserved5 => exact decode_of_op_reserved5 (opField_packWord _ _ _)
  | reserved6 => exact decode_of_op_reserved6 (opField_packWord _ _ _)
  | reserved7 => exact decode_of_op_reserved7 (opField_packWord _ _ _)

/-- Settles O2: for each op code, the decoder's equation reads only the fields on which the two words agree. -/
theorem decodeReadsOnlyTheFieldsACommandUses : Obligations.DecodeReadsOnlyTheFieldsACommandUses := by
  intro w w' hop haddr hbit harg
  rcases op_cases (opField w) with h | h | h | h | h | h | h | h <;> rw [h] at hop
  · rw [decode_of_op_read h, decode_of_op_read hop.symm, haddr (.inl h)]
  · rw [decode_of_op_write h, decode_of_op_write hop.symm, haddr (.inr h)]
  · rw [decode_of_op_flush h, decode_of_op_flush hop.symm]
  · rw [decode_of_op_seten h, decode_of_op_seten hop.symm, enableBit, enableBit, hbit h]
  · rw [decode_of_op_consume h, decode_of_op_consume hop.symm, harg h]
  · rw [decode_of_op_reserved5 h, decode_of_op_reserved5 hop.symm]
  · rw [decode_of_op_reserved6 h, decode_of_op_reserved6 hop.symm]
  · rw [decode_of_op_reserved7 h, decode_of_op_reserved7 hop.symm]

/-! The opcode table, R65 to R68. -/

/-- The decoder gives a command of the word's op code. -/
theorem op_decode (w : CommandWord) : (decode w).op = opField w := by
  rcases op_cases (opField w) with h | h | h | h | h | h | h | h
  · rw [decode_of_op_read h, h]; rfl
  · rw [decode_of_op_write h, h]; rfl
  · rw [decode_of_op_flush h, h]; rfl
  · rw [decode_of_op_seten h, h]; rfl
  · rw [decode_of_op_consume h, h]; rfl
  · rw [decode_of_op_reserved5 h, h]; rfl
  · rw [decode_of_op_reserved6 h, h]; rfl
  · rw [decode_of_op_reserved7 h, h]; rfl

/-- A word is its three fields side by side, R65. -/
theorem packWord_fields (w : CommandWord) : packWord (opField w) (addrField w) (argField w) = w := by
  have hhigh : opField w ++ addrField w = w.extractLsb' 32 35 :=
    BitVec.extractLsb'_append_extractLsb'_eq_extractLsb' rfl
  exact (congrArg (· ++ argField w) hhigh).trans BitVec.extractLsb'_append_extractLsb'

theorem packWord_and_packWord (op op' : BitVec 3) (addr addr' arg arg' : BitVec 32) :
    packWord op addr arg &&& packWord op' addr' arg' = packWord (op &&& op') (addr &&& addr') (arg &&& arg') :=
  BitVec.and_append.trans (congrArg (· ++ (arg &&& arg')) BitVec.and_append)

/-- The table's mask keeps the op code alone. -/
theorem and_opMask (w : CommandWord) : w &&& packWord 7 0 0 = packWord (opField w) 0 0 := by
  have hop : opField w &&& 7 = opField w := BitVec.and_allOnes
  conv_lhs => rw [← packWord_fields w, packWord_and_packWord, hop]
  simp

theorem mask_and_pattern_of_row : ∀ r ∈ opcodeTable,
    r.mask = packWord 7 0 0 ∧ r.pattern = packWord (opField r.pattern) 0 0 := by decide

/-- A row covers exactly the words of its op code. -/
theorem covers_iff {r : OpcodeRow} (hr : r ∈ opcodeTable) (w : CommandWord) :
    r.covers w = true ↔ opField w = opField r.pattern := by
  obtain ⟨hmask, hpattern⟩ := mask_and_pattern_of_row r hr
  rw [OpcodeRow.covers, hmask, and_opMask, beq_iff_eq]
  constructor
  · intro h
    rw [← h, opField_packWord]
  · intro h
    rw [h, ← hpattern]

/-- No two rows have one op code. -/
theorem row_eq_of_op_eq : ∀ r ∈ opcodeTable, ∀ r' ∈ opcodeTable,
    opField r'.pattern = opField r.pattern → r' = r := by decide

/-- Every command has a row, of its op code and mnemonic. -/
theorem exists_row (i : Instr) : ∃ r ∈ opcodeTable, opField r.pattern = i.op ∧ i.mnemonic = r.mnemonic := by
  have hrow (k : Fin 8) : opcodeTable[k] ∈ opcodeTable := List.getElem_mem _
  cases i with
  | read _ => exact ⟨_, hrow 0, rfl, rfl⟩
  | write _ => exact ⟨_, hrow 1, rfl, rfl⟩
  | flush => exact ⟨_, hrow 2, rfl, rfl⟩
  | seten _ => exact ⟨_, hrow 3, rfl, rfl⟩
  | consume _ => exact ⟨_, hrow 4, rfl, rfl⟩
  | reserved5 => exact ⟨_, hrow 5, rfl, rfl⟩
  | reserved6 => exact ⟨_, hrow 6, rfl, rfl⟩
  | reserved7 => exact ⟨_, hrow 7, rfl, rfl⟩

/-- Settles O3: a row covers the words of its op code, so the one row is that of the decoded command. -/
theorem everyWordHasExactlyOneOpcodeRow : Obligations.EveryWordHasExactlyOneOpcodeRow := by
  intro w
  obtain ⟨r, hr, hop, hmnemonic⟩ := exists_row (decode w)
  rw [op_decode] at hop
  refine ⟨r, hr, (covers_iff hr w).mpr hop.symm, fun r' hr' hcovers => ?_, hmnemonic⟩
  exact row_eq_of_op_eq r hr r' hr' (((covers_iff hr' w).mp hcovers).symm.trans hop.symm)

/-- Settles O4: closed words, by evaluation. -/
theorem writtenOutCommandWordsDecode : Obligations.WrittenOutCommandWordsDecode := by
  unfold Obligations.WrittenOutCommandWordsDecode
  decide

/-! The assembler lines, R70. -/

/-- Settles O5: the number a line carries is its operand's value, which fits and is read back. -/
theorem assemblerLinesAssembleToTheirCommand : Obligations.AssemblerLinesAssembleToTheirCommand := by
  intro i l hl
  cases i with
  | read addr => cases hl; simp [AsmLine.assemble, AsmLine.wf, addr.isLt]
  | write addr => cases hl; simp [AsmLine.assemble, AsmLine.wf, addr.isLt]
  | flush => cases hl; simp [AsmLine.assemble, AsmLine.wf]
  | seten b => cases hl; cases b <;> simp [AsmLine.assemble, AsmLine.wf]
  | consume n => cases hl; simp [AsmLine.assemble, AsmLine.wf, n.isLt]
  | reserved5 => cases hl
  | reserved6 => cases hl
  | reserved7 => cases hl

end Sys2Proof
end

section
/-! PROOF. Construction and reset (R131 to R139), and what the address functions depend on (R56, R72 to R80). -/

namespace Sys2Proof.Machine

/-! Construction, R63, R139. -/

/-- A code that is not reserved is the code of its policy. -/
theorem policyCode_policyOfCode :
    ∀ c : BitVec 2, c ≠ 3 → policyCode ((policyOfCode c).getD .disabled) = c := by decide

theorem policyCodesWf_iff (codes : Vector (BitVec 2) 256) :
    policyCodesWf codes = true ↔ ∀ b : Fin 256, codes[b] ≠ 3 := by
  rw [policyCodesWf, List.all_eq_true]
  constructor
  · intro h b
    simpa using h codes[b] (by simp)
  · intro h c hc
    obtain ⟨b, hb, rfl⟩ := List.mem_iff_getElem.mp hc
    simpa using h ⟨b, by simpa using hb⟩

/-- Settles O7: `policyCodesWf` decides the refusal; any other map is loaded code by code, each the code of its
policy. -/
theorem constructionRefusesExactlyReservedPolicyCodes :
    Obligations.ConstructionRefusesExactlyReservedPolicyCodes := by
  intro codes c
  by_cases hwf : policyCodesWf codes = true
  · have hcodes := (policyCodesWf_iff codes).mp hwf
    simp only [construct, loadPolicyMap, if_pos hwf]
    refine ⟨by simpa using hcodes, fun s hs => ⟨_, fun b => ?_, (Option.some.inj hs).symm⟩⟩
    simpa using policyCode_policyOfCode codes[b] (hcodes b)
  · have hcodes : ∃ b : Fin 256, codes[b] = 3 := by simpa [policyCodesWf_iff] using hwf
    have hrefused : construct codes c = none := by simp [construct, loadPolicyMap, hwf]
    exact ⟨iff_of_true hrefused hcodes, fun s hs => by rw [hrefused] at hs; cases hs⟩

/-! Reset, R131 to R138. -/

@[simp] theorem State.line_resetWith (c : Config) (e : EntryIx) (w : Way) :
    (State.resetWith c).line e w = Line.reset := by
  simp [State.line, State.resetWith]

@[simp] theorem State.lruOf_resetWith (c : Config) (e : EntryIx) : (State.resetWith c).lruOf e = 0 := by
  simp [State.lruOf, State.resetWith]

/-- Settles O6: the arrays by `line_resetWith` and `lruOf_resetWith`, the registers by definition. -/
theorem resetGivesEveryRegisterItsResetValue : Obligations.ResetGivesEveryRegisterItsResetValue :=
  fun c => ⟨State.line_resetWith c, State.lruOf_resetWith c, rfl, rfl, rfl, rfl, rfl, rfl, rfl, rfl, rfl, rfl, rfl⟩

/-! The area, R71 to R74. -/

theorem toNat_extractLsb_areaBits (a : Addr) : (a.extractLsb 28 26).toNat = a.toNat / 2 ^ 26 % 8 := by
  rw [BitVec.extractLsb_toNat, Nat.shiftRight_eq_div_pow]

theorem toNat_extractLsb_topBits (a : Addr) : (a.extractLsb 31 29).toNat = a.toNat / 2 ^ 29 % 8 := by
  rw [BitVec.extractLsb_toNat, Nat.shiftRight_eq_div_pow]

/-- Settles O9: the thresholds are multiples of 2^26, so each form reads the masked address divided by 2^26. -/
theorem areaHasItsBitLevelForm : Obligations.AreaHasItsBitLevelForm := by
  intro c addr
  simp only [area, areaRsv, ← BitVec.toNat_inj, ne_eq, BitVec.lt_def, apply_ite BitVec.toNat]
  generalize addr &&& c.areaAddrMask = a
  have ha := a.isLt
  simp only [toNat_extractLsb_areaBits, toNat_extractLsb_topBits, BitVec.ofNat_eq_ofNat, BitVec.toNat_ofNat]
  split_ifs <;> omega

/-- Settles O11: closed values, by evaluation. -/
theorem defaultAreaBoundariesAndCosts : Obligations.DefaultAreaBoundariesAndCosts := by
  unfold Obligations.DefaultAreaBoundariesAndCosts
  decide

/-- R73: in the default profile the upper half of the address space is reserved. -/
theorem area_defaultConfig_of_le {addr : Addr} (h : 0x80000000#32 ≤ addr) : area defaultConfig addr = areaRsv := by
  have hmask : addr &&& defaultConfig.areaAddrMask = addr := BitVec.and_allOnes
  have hlow : ∀ b : Addr, b ≤ 0x80000000#32 → ¬addr < b := fun b hb => BitVec.not_lt.mpr (BitVec.le_trans hb h)
  simp only [area, hmask]
  rw [if_neg (hlow _ (by decide)), if_neg (hlow _ (by decide)), if_neg (hlow _ (by decide))]

/-- Settles O12: an address that is not WriteBack lies in the upper half, whose area is reserved and costs nothing. -/
theorem defaultAreaCostsFallOnWriteBackAddressesOnly :
    Obligations.DefaultAreaCostsFallOnWriteBackAddressesOnly := by
  intro addr hcost
  by_cases hlow : addr < 0x80000000#32
  · rw [cachePolicy_defaultConfig, if_pos hlow]
  · rw [area_defaultConfig_of_le (BitVec.not_lt.mp hlow)] at hcost
    exact absurd rfl hcost

/-! The line address, R80. -/

theorem area_eq_of_getLsbD_eq (c : Config) {x y : Addr} (h : ∀ i, 26 ≤ i → x.getLsbD i = y.getLsbD i) :
    area c x = area c y :=
  area_congr (toNat_and_div_congr c.areaAddrMask h)

theorem cachePolicy_eq_of_getLsbD_eq (c : Config) {x y : Addr} (h : ∀ i, 24 ≤ i → x.getLsbD i = y.getLsbD i) :
    cachePolicy c x = cachePolicy c y := by
  refine cachePolicy_congr (BitVec.eq_of_getLsbD_eq fun i _ => ?_)
  simp only [topByte, BitVec.getLsbD_extractLsb, h (24 + i) (by omega)]

@[simp] theorem area_lineAddr_tag (c : Config) (addr : Addr) : area c (lineAddr (tag addr)) = area c addr :=
  area_eq_of_getLsbD_eq c fun _ hi => getLsbD_lineAddr_tag addr (by omega)

@[simp] theorem cachePolicy_lineAddr_tag (c : Config) (addr : Addr) :
    cachePolicy c (lineAddr (tag addr)) = cachePolicy c addr :=
  cachePolicy_eq_of_getLsbD_eq c fun _ hi => getLsbD_lineAddr_tag addr (by omega)

/-- Settles O10: area and policy read bits 24 and up, where the line address has the address's own bits. -/
theorem lineAddressKeepsAreaAndPolicy : Obligations.LineAddressKeepsAreaAndPolicy := by
  intro c addr
  exact ⟨area_lineAddr_tag c addr, cachePolicy_lineAddr_tag c addr,
    BitVec.extractLsb'_append_eq_left, BitVec.extractLsb'_append_eq_right⟩

/-! The offset bits, R56. -/

section offset
variable {x y : Addr}

theorem getLsbD_eq_of_extractLsb_eq (h : x.extractLsb 31 4 = y.extractLsb 31 4) {i : Nat} (hi : 4 ≤ i) :
    x.getLsbD i = y.getLsbD i := by
  by_cases hlt : i < 32
  · have := congrArg (BitVec.getLsbD · (i - 4)) h
    simpa [BitVec.getLsbD_extractLsb, show i - 4 < 28 by omega, show 4 + (i - 4) = i by omega] using this
  · rw [BitVec.getLsbD_of_ge _ _ (by omega), BitVec.getLsbD_of_ge _ _ (by omega)]

theorem index_eq_of_extractLsb_eq (h : x.extractLsb 31 4 = y.extractLsb 31 4) : index x = index y := by
  refine BitVec.eq_of_getLsbD_eq fun i _ => ?_
  simp only [index, BitVec.getLsbD_extractLsb, getLsbD_eq_of_extractLsb_eq h (show 4 ≤ 4 + i by omega)]

theorem tag_eq_of_extractLsb_eq (h : x.extractLsb 31 4 = y.extractLsb 31 4) : tag x = tag y := by
  refine BitVec.eq_of_getLsbD_eq fun i _ => ?_
  simp only [tag, BitVec.getLsbD_extractLsb, getLsbD_eq_of_extractLsb_eq h (show 4 ≤ 10 + i by omega)]

end offset

/-- Settles O13: an access reads its address through `area`, `cachePolicy`, `index` and `tag` alone, and none of them
reads bits [3:0]. -/
theorem offsetBitsChangeNoAccess : Obligations.OffsetBitsChangeNoAccess := by
  intro s a a' h
  have hbits : ∀ i, 4 ≤ i → a.getLsbD i = a'.getLsbD i := fun i => getLsbD_eq_of_extractLsb_eq h
  have harea := area_eq_of_getLsbD_eq s.cfg fun i hi => hbits i (by omega)
  have hpolicy := cachePolicy_eq_of_getLsbD_eq s.cfg fun i hi => hbits i (by omega)
  have hindex := index_eq_of_extractLsb_eq h
  have htag := tag_eq_of_extractLsb_eq h
  have hpath : s.countRead.takesDisabledPath a = s.countRead.takesDisabledPath a' := by
    simp only [State.takesDisabledPath, State.countRead_cfg, hpolicy]
  have hdisabled : s.countRead.disabledAccess a = s.countRead.disabledAccess a' := by
    simp only [State.disabledAccess, State.countRead_cfg, harea]
  have hread : readTiming a s = readTiming a' s := by
    simp only [readTiming, hpath, hdisabled, harea, hindex, htag]
  have hwrite : writeTiming a s = writeTiming a' s := by
    simp only [writeTiming, hpath, hdisabled, harea, hpolicy, hindex, htag]
  exact ⟨by simp only [exec, execRead, hread], by simp only [exec, execWrite, hwrite]⟩

end Sys2Proof.Machine
end

section
/-! PROOF. The hit scan (R90) and the LRU encoder (R81 to R89). -/

namespace Sys2Proof.Machine

/-! The hit scan, R90. -/

theorem Line.hits_iff (l : Line) (t : Tag) : l.hits t = true ↔ l.valid = true ∧ l.tag = t := by
  simp [Line.hits]

theorem State.lookup_eq_some {s : State} {e : EntryIx} {t : Tag} {w : Way} : s.lookup e t = some w ↔
    (s.line e w).hits t = true ∧ ∀ w', w' < w → ¬(s.line e w').hits t = true := by
  have hways : [0, 1, 2, 3] = List.ofFn (id : Way → Way) := by decide
  rw [State.lookup, hways, List.find?_eq_some_iff_getElem]
  simp only [List.length_ofFn, List.getElem_ofFn, id, Bool.not_eq_true', ← Bool.not_eq_true]
  refine and_congr_right fun _ => ?_
  constructor
  · rintro ⟨i, _, rfl, hlow⟩ w' hw'
    exact hlow w' hw'
  · intro hlow
    exact ⟨w, w.isLt, rfl, fun j hj => hlow ⟨j, hj.trans w.isLt⟩ hj⟩

/-- Settles O14: `lookup_eq_some` for a hit, `lookup_eq_none` for a miss. -/
theorem lookupFindsTheLowestValidMatch : Obligations.LookupFindsTheLowestValidMatch := by
  intro s e t
  refine ⟨fun w => ?_, State.lookup_eq_none⟩
  simp only [State.lookup_eq_some, Line.hits_iff, and_assoc]

/-! The LRU encoder. -/

/-- Settles O15: the 64 patterns, by evaluation. -/
theorem oldestTableHoldsTheLeastRecentWay : Obligations.OldestTableHoldsTheLeastRecentWay := by
  unfold Obligations.OldestTableHoldsTheLeastRecentWay
  decide

/-- Settles O17: the 64 patterns, by evaluation. -/
theorem fourAllocationsUseFourDistinctWays : Obligations.FourAllocationsUseFourDistinctWays := by
  unfold Obligations.FourAllocationsUseFourDistinctWays
  decide

/-- Settles O54: the 64 patterns and the six pairs, by evaluation. -/
theorem defaultMasksAreClosedAndFollowThePairs : Obligations.DefaultMasksAreClosedAndFollowThePairs := by
  unfold Obligations.DefaultMasksAreClosedAndFollowThePairs
  decide

theorem newer_touched_self : ∀ (v : LruBits) (w x : Way), x ≠ w → newer (touched defaultConfig v w) w x = true := by
  decide

theorem newer_touched_other : ∀ (v : LruBits) (w x y : Way), x ≠ w → y ≠ w →
    newer (touched defaultConfig v w) x y = newer v x y := by
  decide

/-- Settles O16: the written value and the frame are those of `setLru`; with the default masks the value is that of
`touched` in the default profile. -/
theorem updateLruMakesTheWayNewestAndKeepsTheRest : Obligations.UpdateLruMakesTheWayNewestAndKeepsTheRest := by
  intro s e w t
  have hself : t.lruOf e = touched s.cfg (s.lruOf e) w := by simp [t, State.lruOf_updateLru]
  refine ⟨hself, fun e' he' => by simp [t, State.lruOf_updateLru, he'], rfl, fun hand hor => ?_⟩
  have hdefault : t.lruOf e = touched defaultConfig (s.lruOf e) w := by
    rw [hself, touched, touched, hand, hor]
    rfl
  rw [hdefault]
  exact ⟨newer_touched_self _ w, newer_touched_other _ w⟩

end Sys2Proof.Machine
end

section
/-! PROOF. Everything an access and a command can do, as two inductive relations: `AccessPath` has one constructor for
each path of READ and WRITE (R92, R96), `Answers` one for each way a command can end (R119 to R121). -/

namespace Sys2Proof.Machine

theorem State.setLine_line_self (s : State) (e : EntryIx) (w : Way) : s.setLine e w (s.line e w) = s := by
  simp [State.setLine, State.line]

theorem counted_bump (c : Config) (d : Nat) (k : Counter) : Counted c k (k.bump c d) := by
  unfold Counted
  split
  case isTrue h => exact Counter.bump_of_specified (by simp [Counter.unspecified, h])
  case isFalse h =>
    refine Counter.bump_of_unspecified ?_
    simpa only [Counter.unspecified, Bool.or_eq_true, Bool.not_eq_true', not_and_or, Bool.not_eq_false,
      Bool.not_eq_true] using h

theorem writeBackCost_eq (c : Config) (l : Line) : writeBackCost c l =
    if l.valid = true ∧ l.dirty = true then areaWaitStates c (area c (lineAddr l.tag)) else 0 := by
  simp only [writeBackCost, Line.pending, Bool.and_eq_true]

/-! The states the paths leave; that of an allocating miss is `State.allocated`. -/

/-- The line an access leaves in the way it hits: a WRITE sets its dirty bit (R97), a READ keeps it (R92). -/
def State.hitLine (s : State) (isWrite : Bool) (addr : Addr) (w : Way) : Line :=
  if isWrite then (s.line (index addr) w).writeHit (cachePolicy s.cfg addr) else s.line (index addr) w

/-- What a hit charges beyond turnaround, R98. -/
def State.hitCharge (s : State) (isWrite : Bool) (addr : Addr) : Nat :=
  if isWrite = true ∧ cachePolicy s.cfg addr = .writeThrough then s.areaCost addr else 0

/-- The state an access that hits way `w` leaves, R92, R97, R98. -/
def State.hitAt (s : State) (isWrite : Bool) (addr : Addr) (w : Way) : State :=
  (((((s.countRead.turnaround isWrite (area s.cfg addr)).countHit).updateLru (index addr) w).setLine (index addr) w
    (s.hitLine isWrite addr w)).charge (s.hitCharge isWrite addr)).respond (.access true)

/-- The state a WRITE miss under WriteThrough leaves, R99, R100. -/
def State.missedThrough (s : State) (addr : Addr) : State :=
  (((s.countRead.turnaround true (area s.cfg addr)).countMiss).charge (s.areaCost addr)).respond (.access false)

section states
variable (s : State) (isWrite : Bool) (addr : Addr) (w v : Way)

theorem State.turnaroundCharge_eq_turn :
    turnaroundCharge s.prevWrite s.prevArea isWrite (area s.cfg addr) = s.turn isWrite addr :=
  turnaroundCharge_eq _ _ _ _

theorem State.hitAt_acc :
    (s.hitAt isWrite addr w).acc = s.acc + (s.turn isWrite addr + s.hitCharge isWrite addr) := by
  simp [State.hitAt, State.turnaroundCharge_eq_turn, Nat.add_assoc]

theorem State.missedThrough_acc : (s.missedThrough addr).acc = s.acc + (s.turn true addr + s.areaCost addr) := by
  simp [State.missedThrough, State.turnaroundCharge_eq_turn, Nat.add_assoc]

theorem State.line_hitAt (e' : EntryIx) (w' : Way) : (s.hitAt isWrite addr w).line e' w' =
    if e' = index addr ∧ w' = w then s.hitLine isWrite addr w else s.line e' w' := by
  simp [State.hitAt, State.line_setLine]

theorem State.line_allocated (e' : EntryIx) (w' : Way) : (s.allocated isWrite addr v).line e' w' =
    if e' = index addr ∧ w' = v then ⟨true, isWrite, tag addr⟩ else s.line e' w' := by
  simp [State.allocated, State.line_install]

theorem State.lruOf_hitAt (e' : EntryIx) : (s.hitAt isWrite addr w).lruOf e' =
    if e' = index addr then touched s.cfg (s.lruOf (index addr)) w else s.lruOf e' := by
  simp [State.hitAt, State.lruOf_updateLru]

theorem State.lruOf_allocated (e' : EntryIx) : (s.allocated isWrite addr v).lruOf e' =
    if e' = index addr then touched s.cfg (s.lruOf (index addr)) v else s.lruOf e' := by
  simp [State.allocated, State.install, State.lruOf_updateLru]

/-- A READ hit changes no line. -/
theorem State.sameLines_hitAt_read : SameLines s (s.hitAt false addr w) := by
  intro e' w'
  rw [State.line_hitAt]
  split
  · rename_i h
    rw [h.1, h.2]
    rfl
  · rfl

@[simp] theorem State.hitLine_valid : (s.hitLine isWrite addr w).valid = (s.line (index addr) w).valid := by
  cases isWrite <;> rfl

@[simp] theorem State.hitLine_tag : (s.hitLine isWrite addr w).tag = (s.line (index addr) w).tag := by
  cases isWrite <;> rfl

end states

/-! The paths of an access, R92, R96. -/

/-- The path an access takes, and what it comes to. -/
inductive AccessPath (s : State) (isWrite : Bool) (addr : Addr) : Effect → Prop
  /-- R93, R114. -/
  | bypassed (hb : s.Bypassed addr) : AccessPath s isWrite addr (.ok (s.countRead.disabledAccess addr))
  /-- R92, R97. -/
  | hit {w : Way} (hc : s.Cacheable addr) (hl : s.lookup (index addr) (tag addr) = some w) :
      AccessPath s isWrite addr (.ok (s.hitAt isWrite addr w))
  /-- R99, R100. -/
  | missedThrough (hc : s.Cacheable addr) (hl : s.lookup (index addr) (tag addr) = none) (hw : isWrite = true)
      (hp : cachePolicy s.cfg addr = .writeThrough) : AccessPath s isWrite addr (.ok (s.missedThrough addr))
  /-- R92, R101. -/
  | allocated {v : Way} (ha : s.Allocates isWrite addr) (ho : s.oldestWay (index addr) = some v) :
      AccessPath s isWrite addr (.ok (s.allocated isWrite addr v))
  /-- R85. -/
  | invalid (ha : s.Allocates isWrite addr) (ho : s.oldestWay (index addr) = none) :
      AccessPath s isWrite addr (.error .lruInvalid)

section paths
variable {s t : State} {isWrite : Bool} {addr : Addr} {w : Way} {r : Effect}

theorem State.bypassed_iff : s.Bypassed addr ↔ s.takesDisabledPath addr = true := by
  rw [takesDisabledPath_eq_true, or_comm]

theorem State.bypassed_iff_not_cacheable : s.Bypassed addr ↔ ¬s.Cacheable addr := by
  rw [State.bypassed_iff, ← takesDisabledPath_eq_false, Bool.not_eq_false]

theorem accessTiming_hit (hc : s.Cacheable addr) (hl : s.lookup (index addr) (tag addr) = some w) :
    accessTiming isWrite addr s = .ok (s.hitAt isWrite addr w) := by
  have hd := takesDisabledPath_eq_false.mpr hc
  cases isWrite with
  | true => simp [accessTiming, writeTiming_hit hd hl, State.hitAt, State.hitLine, State.hitCharge]
  | false =>
    have hline : s.hitLine false addr w =
        (((s.countRead.turnaround false (area s.cfg addr)).countHit).updateLru (index addr) w).line (index addr) w := rfl
    rw [State.hitAt, hline, State.setLine_line_self]
    exact readTiming_hit hd hl

/-- A path determines what the access comes to. -/
theorem AccessPath.eq (h : AccessPath s isWrite addr r) : accessTiming isWrite addr s = r := by
  cases h with
  | bypassed hb =>
    have hd := State.bypassed_iff.mp hb
    cases isWrite with
    | true => exact writeTiming_disabled hd
    | false => exact readTiming_disabled hd
  | hit hc hl => exact accessTiming_hit hc hl
  | missedThrough hc hl hw hp =>
    subst hw
    exact writeTiming_writeThroughMiss (takesDisabledPath_eq_false.mpr hc) hl hp
  | allocated ha ho => exact accessTiming_allocates ha ho
  | invalid ha ho =>
    obtain ⟨hc, hl, hp⟩ := ha
    have hd := takesDisabledPath_eq_false.mpr hc
    cases isWrite with
    | true => exact writeTiming_invalid hd hl (hp rfl) ho
    | false => exact readTiming_invalid hd hl ho

variable (s isWrite addr)

/-- Every access takes one of the paths. -/
theorem accessPath : AccessPath s isWrite addr (accessTiming isWrite addr s) := by
  have hex : ∃ r, AccessPath s isWrite addr r := by
    by_cases hc : s.Cacheable addr
    · cases hl : s.lookup (index addr) (tag addr) with
      | some w => exact ⟨_, .hit hc hl⟩
      | none =>
        by_cases hp : isWrite = true → cachePolicy s.cfg addr ≠ .writeThrough
        · cases ho : s.oldestWay (index addr) with
          | some v => exact ⟨_, .allocated ⟨hc, hl, hp⟩ ho⟩
          | none => exact ⟨_, .invalid ⟨hc, hl, hp⟩ ho⟩
        · obtain ⟨hw, hp⟩ := not_forall.mp hp
          exact ⟨_, .missedThrough hc hl hw (not_not.mp hp)⟩
    · exact ⟨_, .bypassed (State.bypassed_iff_not_cacheable.mpr hc)⟩
  obtain ⟨r, hr⟩ := hex
  rwa [hr.eq]

/-! What an access charges, path by path. -/

variable {s isWrite addr}

theorem State.accessCharge_bypassed (hb : s.Bypassed addr) : s.accessCharge isWrite addr = s.areaCost addr := by
  rw [State.accessCharge, if_neg (State.bypassed_iff_not_cacheable.mp hb)]

theorem State.accessCharge_hit (hc : s.Cacheable addr) (hl : s.lookup (index addr) (tag addr) = some w) :
    s.accessCharge isWrite addr = s.turn isWrite addr + s.hitCharge isWrite addr := by
  have hhit : (s.lookup (index addr) (tag addr)).isSome = true := by rw [hl]; rfl
  rw [State.accessCharge, if_pos hc, if_pos hhit]
  rfl

theorem State.accessCharge_missedThrough (hc : s.Cacheable addr) (hl : s.lookup (index addr) (tag addr) = none)
    (hp : cachePolicy s.cfg addr = .writeThrough) :
    s.accessCharge true addr = s.turn true addr + s.areaCost addr := by
  have hn : ¬s.Allocates true addr := fun ha => ha.2.2 rfl hp
  have hmiss : ¬(s.lookup (index addr) (tag addr)).isSome = true := by simp [hl]
  rw [State.accessCharge, if_pos hc, if_neg hmiss, if_neg (fun h => hn h.1), Nat.add_zero]

theorem State.accessCharge_allocated (ha : s.Allocates isWrite addr) (ho : s.oldestWay (index addr) = some w) :
    s.accessCharge isWrite addr = s.turn isWrite addr + s.areaCost addr + s.victimCharge isWrite addr w := by
  have hev : s.evictionCost addr = writeBackCost s.cfg (s.line (index addr) w) := by simp [State.evictionCost, ho]
  have hmiss : ¬(s.lookup (index addr) (tag addr)).isSome = true := by simp [ha.2.1]
  rw [State.accessCharge, if_pos ha.1, if_neg hmiss, hev, State.victimCharge,
    if_congr (and_iff_right ha) rfl rfl, Nat.add_assoc]

/-- A completed access adds exactly its charge. -/
theorem AccessPath.acc (h : AccessPath s isWrite addr (.ok t)) : t.acc = s.acc + s.accessCharge isWrite addr := by
  cases h with
  | bypassed hb => rw [State.accessCharge_bypassed hb]; rfl
  | hit hc hl => rw [State.accessCharge_hit hc hl, State.hitAt_acc]
  | missedThrough hc hl hw hp => subst hw; rw [State.accessCharge_missedThrough hc hl hp, State.missedThrough_acc]
  | allocated ha ho => rw [State.accessCharge_allocated ha ho, State.allocated_acc, Nat.add_assoc]

/-- A completed access answers whether it hit. -/
theorem AccessPath.response (h : AccessPath s isWrite addr (.ok t)) : t.response =
    .access (decide (s.Cacheable addr) && (s.lookup (index addr) (tag addr)).isSome) := by
  cases h with
  | bypassed hb => simp [State.bypassed_iff_not_cacheable.mp hb, State.disabledAccess]
  | hit hc hl => rw [decide_eq_true hc, hl]; rfl
  | missedThrough hc hl hw hp => simp only [hl, Option.isSome_none, Bool.and_false]; rfl
  | allocated ha ho => simp only [ha.2.1, Option.isSome_none, Bool.and_false]; rfl

/-- R38: a completed access writes neither the enable flag, the fault state, the configuration nor the port. -/
theorem AccessPath.sameControl (h : AccessPath s isWrite addr (.ok t)) : SameControl s t := by
  cases h with
  | bypassed => exact ⟨rfl, rfl, rfl, rfl, rfl⟩
  | hit => exact ⟨rfl, rfl, rfl, rfl, rfl⟩
  | missedThrough => exact ⟨rfl, rfl, rfl, rfl, rfl⟩
  | allocated => exact ⟨rfl, rfl, rfl, rfl, rfl⟩

/-- An access whose charge fits completes by its path. -/
theorem AccessPath.exec_ok (h : AccessPath s isWrite addr (.ok t)) (hs : s.Ready)
    (hfit : s.Absorbs (s.accessCharge isWrite addr)) : exec (accessOf isWrite addr) s = .next t := by
  obtain ⟨_, _, _, hcfg, _⟩ := h.sameControl
  refine exec_accessOf_ok hs h.eq ?_
  rw [hcfg, h.acc]
  exact hfit

/-- An access whose charge does not fit overflows, R121. -/
theorem AccessPath.exec_overflow (h : AccessPath s isWrite addr (.ok t)) (hs : s.Ready)
    (hfit : ¬s.Absorbs (s.accessCharge isWrite addr)) :
    exec (accessOf isWrite addr) s = .next (s.raiseFault .accOverflow) := by
  obtain ⟨_, _, _, hcfg, _⟩ := h.sameControl
  rw [exec_eq_run, effectOf_accessOf hs, h.eq, Effect.accChecked_overflow, State.run_error hs.1]
  rw [hcfg, h.acc]
  exact hfit

/-- An access on an invalid pattern raises LRU_INVALID, R85. -/
theorem exec_accessOf_invalid (hs : s.Ready) (ha : s.Allocates isWrite addr)
    (ho : s.oldestWay (index addr) = none) :
    exec (accessOf isWrite addr) s = .next (s.raiseFault .lruInvalid) := by
  rw [exec_eq_run, effectOf_accessOf hs, (AccessPath.invalid ha ho).eq]
  exact State.run_error hs.1

/-- An access whose victim, where it allocates, can be chosen takes a path that completes. -/
theorem exists_accessPath_ok (h : s.Allocates isWrite addr → TotalOrder (s.lruOf (index addr))) :
    ∃ t, AccessPath s isWrite addr (.ok t) := by
  have hpath := accessPath s isWrite addr
  cases hr : accessTiming isWrite addr s with
  | ok t => exact ⟨t, hr ▸ hpath⟩
  | error c =>
    rw [hr] at hpath
    cases hpath with
    | invalid ha ho => exact absurd (h ha) ((oldestTableHoldsTheLeastRecentWay _).1.mp ho)

end paths

/-! What a command can answer. -/

/-- The state a command leaves when it completes by its own rule. -/
inductive Completes (s : State) : Instr → State → Prop
  /-- R92, R96. -/
  | access {isWrite : Bool} {addr : Addr} {t : State} (hv : s.cfg.variant = .timing)
      (path : AccessPath s isWrite addr (.ok t)) (hfit : fitsWidth t.cfg.accWidth t.acc = true) :
      Completes s (accessOf isWrite addr) t
  /-- R116. -/
  | stubAccess {isWrite : Bool} {addr : Addr} (hv : s.cfg.variant = .passthrough) :
      Completes s (accessOf isWrite addr) (s.drawn.respond (.access (Config.passthroughHit s.draws)))
  /-- R106. -/
  | flush (hv : s.cfg.variant = .timing) (hfit : fitsWidth s.cfg.accWidth (s.acc + s.flushCost) = true) :
      Completes s .flush s.flushedAll
  /-- R116. -/
  | stubFlush (hv : s.cfg.variant = .passthrough) : Completes s .flush (s.respond .done)
  /-- R109. -/
  | consume (n : Cycles) : Completes s (.consume n)
      ((s.setAcc (accAfterDrain s.acc n)).respond (.remaining (remainingCycles s.acc n)))
  /-- R114. -/
  | seten (b : Bool) : Completes s (.seten b) ((s.setEnabled b).respond .done)

/-- How a command ends: refused (R120), with a fault (R119), or completed. -/
inductive Answers (s : State) (i : Instr) : State → Prop
  | refused (hf : s.fault = true) : Answers s i s.refuse
  | raised {c : FaultCause} (hf : s.fault = false) (hc : c ≠ .none) : Answers s i (s.raiseFault c)
  | completed {t : State} (hf : s.fault = false) (h : Completes s i t) : Answers s i t

section answers
variable {s t : State} {i : Instr}

theorem completes_of_effectOf_ok (h : effectOf i s = .ok t) : Completes s i t := by
  have haccess : ∀ isWrite addr, s.cfg.variant = .timing → accessTiming isWrite addr s = .ok t →
      fitsWidth t.cfg.accWidth t.acc = true → Completes s (accessOf isWrite addr) t :=
    fun isWrite addr hv hok hfit => .access hv (hok ▸ accessPath s isWrite addr) hfit
  rcases effectOf_ok h with ⟨addr, rfl, hv, hok, hfit⟩ | ⟨addr, rfl, hv, hok, hfit⟩ | ⟨addr, hi, hv, rfl⟩ |
    ⟨rfl, hv, rfl, hfit⟩ | ⟨rfl, hv, rfl⟩ | ⟨n, rfl, rfl⟩ | ⟨b, rfl, rfl⟩
  · exact haccess false addr hv hok hfit
  · exact haccess true addr hv hok hfit
  · rcases hi with rfl | rfl
    · exact .stubAccess (isWrite := false) hv
    · exact .stubAccess (isWrite := true) hv
  · exact .flush hv hfit
  · exact .stubFlush hv
  · exact .consume n
  · exact .seten b

/-- Everything a command can answer. -/
theorem exec_answers (h : exec i s = .next t) : Answers s i t := by
  rcases exec_cases h with ⟨hf, rfl⟩ | ⟨hf, hok⟩ | ⟨hf, c, hc, _, rfl⟩
  · exact .refused hf
  · exact .completed hf (completes_of_effectOf_ok hok)
  · exact .raised hf hc

/-- An access of a ready block faults, or completes by its path within the accumulator's width. -/
theorem exec_accessOf_cases {isWrite : Bool} {addr : Addr} (hs : s.Ready)
    (h : exec (accessOf isWrite addr) s = .next t) :
    (∃ c, t = s.raiseFault c) ∨
      AccessPath s isWrite addr (.ok t) ∧ fitsWidth t.cfg.accWidth t.acc = true := by
  rcases exec_cases h with ⟨hf, _⟩ | ⟨_, hok⟩ | ⟨_, c, _, _, ht⟩
  · rw [hs.1] at hf; cases hf
  · rw [effectOf_accessOf hs] at hok
    obtain ⟨hok, hfit⟩ := Effect.accChecked_cases hok
    exact .inr ⟨hok ▸ accessPath s isWrite addr, hfit⟩
  · exact .inl ⟨c, ht⟩

theorem effectOf_accessOf_passthrough (hv : s.cfg.variant = .passthrough) (isWrite : Bool) (addr : Addr) :
    effectOf (accessOf isWrite addr) s = passthroughAccess s := by
  cases isWrite <;> exact State.byVariant_passthrough hv _ _

/-- Every command answers a next state, R130. -/
theorem exists_exec_eq (i : Instr) (s : State) : ∃ t, exec i s = .next t := by
  rw [exec_eq_run]
  cases hf : s.fault with
  | true => exact ⟨_, State.run_faulted hf _⟩
  | false =>
    cases hr : effectOf i s with
    | ok t => exact ⟨_, State.run_ok hf⟩
    | error c => exact ⟨_, State.run_error hf⟩

end answers

end Sys2Proof.Machine
end

section
/-! PROOF. READ and WRITE, R92 to R105: each path's effect and frame, its faults, what it charges and what it may
change. -/

namespace Sys2Proof.Machine

/-! Effect and frame of each path. -/

/-- Settles O18: the bypassed path, which leaves `disabledAccess`. -/
theorem disabledPathChargesTheAreaCostAndSkipsTheCache :
    Obligations.DisabledPathChargesTheAreaCostAndSkipsTheCache := by
  intro s isWrite addr hs hb hfit
  have path : AccessPath s isWrite addr _ := .bypassed hb
  rw [← State.accessCharge_bypassed (isWrite := isWrite) hb] at hfit ⊢
  exact ⟨_, path.exec_ok hs hfit, rfl, path.acc, counted_bump _ _ _, counted_bump _ _ _, rfl, rfl,
    fun _ _ => rfl, fun _ => rfl, ⟨rfl, rfl⟩, path.sameControl⟩

section access
variable {s t : State} {isWrite : Bool} {addr : Addr} {w v : Way}

theorem State.sameLruBut_hitAt (isWrite : Bool) (w : Way) :
    SameLruBut s (s.hitAt isWrite addr w) (index addr) := by
  intro e he
  rw [State.lruOf_hitAt, if_neg he]

theorem State.sameLruBut_allocated (isWrite : Bool) (v : Way) :
    SameLruBut s (s.allocated isWrite addr v) (index addr) := by
  intro e he
  rw [State.lruOf_allocated, if_neg he]

/-- A hit whose charge fits completes and leaves `hitAt`. -/
theorem exec_hit (hs : s.Ready) (hc : s.Cacheable addr) (hl : s.lookup (index addr) (tag addr) = some w)
    (hfit : s.Absorbs (s.turn isWrite addr + s.hitCharge isWrite addr)) :
    exec (accessOf isWrite addr) s = .next (s.hitAt isWrite addr w) := by
  rw [← State.accessCharge_hit hc hl] at hfit
  exact (AccessPath.hit hc hl).exec_ok hs hfit

/-- An allocating miss whose charge fits completes and leaves `allocated`. -/
theorem exec_allocated (hs : s.Ready) (ha : s.Allocates isWrite addr) (ho : s.oldestWay (index addr) = some v)
    (hfit : s.Absorbs (s.turn isWrite addr + s.areaCost addr + s.victimCharge isWrite addr v)) :
    exec (accessOf isWrite addr) s = .next (s.allocated isWrite addr v) := by
  rw [← State.accessCharge_allocated ha ho] at hfit
  exact (AccessPath.allocated ha ho).exec_ok hs hfit

end access

/-- Settles O19: the hit path of a READ, which leaves `hitAt`. -/
theorem readHitChargesTurnaroundAndRefreshesTheWay : Obligations.ReadHitChargesTurnaroundAndRefreshesTheWay := by
  intro s addr w hs hc hl hfit
  exact ⟨_, exec_hit (isWrite := false) hs hc hl hfit, rfl, s.hitAt_acc false addr w, rfl, rfl, counted_bump _ _ _,
    counted_bump _ _ _, rfl, rfl, by rw [State.lruOf_hitAt, if_pos rfl], State.sameLruBut_hitAt false w,
    s.sameLines_hitAt_read addr w, (AccessPath.hit (isWrite := false) hc hl).sameControl⟩

/-- Settles O20: the allocating path of a READ, which leaves `allocated`. -/
theorem readMissInstallsACleanLineInTheOldestWay : Obligations.ReadMissInstallsACleanLineInTheOldestWay := by
  intro s addr v hs hc hl ho evicted hfit
  have ha : s.Allocates false addr := ⟨hc, hl, nofun⟩
  have hevicted : s.victimCharge false addr v = evicted := by
    simp only [State.victimCharge, writeBackCost_eq, evicted, Bool.false_eq_true, false_or, ite_and]
  rw [← hevicted] at hfit ⊢
  refine ⟨_, exec_allocated hs ha ho hfit, rfl, ?_, rfl, rfl, counted_bump _ _ _, counted_bump _ _ _, rfl, rfl,
    by rw [State.lruOf_allocated, if_pos rfl], State.sameLruBut_allocated false v,
    s.line_allocated_victim false addr v, s.line_allocated_other false addr v, (AccessPath.allocated ha ho).sameControl⟩
  rw [State.allocated_acc, Nat.add_assoc]

/-- Settles O21: the hit path of a WRITE, which leaves `hitAt`; its line is `hitLine`. -/
theorem writeHitPaysTheAreaCostExactlyUnderWriteThrough :
    Obligations.WriteHitPaysTheAreaCostExactlyUnderWriteThrough := by
  intro s addr w hs hc hl through hfit
  have hthrough : s.hitCharge true addr = through := by simp [State.hitCharge, through]
  have hline : (s.hitAt true addr w).line (index addr) w = s.hitLine true addr w := by
    rw [State.line_hitAt, if_pos ⟨rfl, rfl⟩]
  rw [← hthrough] at hfit ⊢
  refine ⟨_, exec_hit (isWrite := true) hs hc hl hfit, rfl, s.hitAt_acc true addr w, rfl, rfl, counted_bump _ _ _,
    counted_bump _ _ _, rfl, rfl, by rw [State.lruOf_hitAt, if_pos rfl], State.sameLruBut_hitAt true w,
    ?_, ?_, ?_, fun e' w' hne => by rw [State.line_hitAt, if_neg hne],
    (AccessPath.hit (isWrite := true) hc hl).sameControl⟩
  · rw [hline, State.hitLine_valid]
    exact (State.lookup_hits hl).1
  · rw [hline, State.hitLine_tag]
  · rw [hline]
    exact beq_iff_eq

/-- Settles O22: the path of a WRITE miss under WriteThrough, which leaves `missedThrough`. -/
theorem writeThroughMissBypassesTheCache : Obligations.WriteThroughMissBypassesTheCache := by
  intro s addr hs hc hp hl hfit
  have path : AccessPath s true addr _ := .missedThrough hc hl rfl hp
  rw [← State.accessCharge_missedThrough hc hl hp] at hfit ⊢
  exact ⟨_, path.exec_ok hs hfit, rfl, path.acc, rfl, rfl, counted_bump _ _ _, counted_bump _ _ _, rfl, rfl,
    fun _ _ => rfl, fun _ => rfl, path.sameControl⟩

/-- Settles O23: the allocating path of a WRITE, which leaves `allocated`. -/
theorem writeBackMissChargesTheVictimsAreaAndInstallsADirtyLine :
    Obligations.WriteBackMissChargesTheVictimsAreaAndInstallsADirtyLine := by
  intro s addr v hs hc hp hl ho evicted hfit
  have ha : s.Allocates true addr := ⟨hc, hl, fun _ => by simp [hp]⟩
  have hevicted : s.victimCharge true addr v = evicted := by
    rw [State.victimCharge, if_pos (.inl rfl), writeBackCost_eq]
  rw [← hevicted] at hfit ⊢
  refine ⟨_, exec_allocated hs ha ho hfit, rfl, ?_, rfl, rfl, counted_bump _ _ _, counted_bump _ _ _, rfl, rfl,
    by rw [State.lruOf_allocated, if_pos rfl], State.sameLruBut_allocated true v,
    s.line_allocated_victim true addr v, s.line_allocated_other true addr v, (AccessPath.allocated ha ho).sameControl⟩
  rw [State.allocated_acc, Nat.add_assoc]

/-! Faults and completion, R119, R121. -/

/-- Settles O25: such a pattern has no oldest way, so the access takes the invalid path. -/
theorem allocatingMissOnAnInvalidPatternRaisesLruInvalid :
    Obligations.AllocatingMissOnAnInvalidPatternRaisesLruInvalid := by
  intro s isWrite addr hs ha hinvalid
  exact exec_accessOf_invalid hs ha ((oldestTableHoldsTheLeastRecentWay _).1.mpr hinvalid)

/-- Settles O26: an access takes a path that completes, which the check on its charge turns into the overflow; FLUSH is
checked alike. -/
theorem chargePastTheAccumulatorWidthRaisesAccOverflow :
    Obligations.ChargePastTheAccumulatorWidthRaisesAccOverflow := by
  constructor
  · intro s isWrite addr hs hvictim hfit
    obtain ⟨t, path⟩ := exists_accessPath_ok hvictim
    exact path.exec_overflow hs hfit
  · intro s hs hfit
    rw [exec_eq_run, effectOf, State.byVariant_timing hs.2, flushTiming, Effect.accChecked_overflow hfit]
    exact State.run_error hs.1

/-- Settles O27: an access takes a path that completes, and every such path adds its charge. -/
theorem accessCompletesAndAddsItsTotalCharge : Obligations.AccessCompletesAndAddsItsTotalCharge := by
  intro s isWrite addr hs hvictim hfit
  obtain ⟨t, path⟩ := exists_accessPath_ok hvictim
  obtain ⟨_, hfault, _⟩ := path.sameControl
  exact ⟨t, path.exec_ok hs hfit, hfault.trans hs.1, path.acc, path.response⟩

/-! Bounds of the charge, R105. -/

section bounds
variable {s t : State} {isWrite : Bool} {addr : Addr} {M : Nat}

theorem State.turn_le_one (s : State) (isWrite : Bool) (addr : Addr) : s.turn isWrite addr ≤ 1 := by
  unfold State.turn
  split <;> omega

theorem State.victimCharge_le (hM : ∀ a, areaWaitStates s.cfg a ≤ M) (v : Way) :
    s.victimCharge isWrite addr v ≤ M := by
  rw [State.victimCharge, writeBackCost_eq]
  split_ifs
  · exact hM _
  · exact M.zero_le
  · exact M.zero_le

/-- R105, path by path. -/
theorem AccessPath.acc_le (path : AccessPath s isWrite addr (.ok t)) (hM : ∀ a, areaWaitStates s.cfg a ≤ M) :
    (s.Bypassed addr → t.acc ≤ s.acc + M) ∧
    (isWrite = false → s.cfg.readEvictDirtyCharge = false → t.acc ≤ s.acc + (1 + M)) ∧
    t.acc ≤ s.acc + (1 + 2 * M) ∧
    (t.response = .access true → (isWrite = false ∨ cachePolicy s.cfg addr = .writeBack) → t.acc ≤ s.acc + 1) := by
  have harea : s.areaCost addr ≤ M := hM _
  have hturn := s.turn_le_one isWrite addr
  have hacc := path.acc
  have hbypassed : s.Bypassed addr ↔ ¬s.Cacheable addr := State.bypassed_iff_not_cacheable
  cases path with
  | bypassed hb =>
    rw [State.accessCharge_bypassed hb] at hacc
    exact ⟨fun _ => by omega, fun _ _ => by omega, by omega, nofun⟩
  | hit hc hl =>
    rw [State.accessCharge_hit hc hl, State.hitCharge] at hacc
    refine ⟨fun hb => absurd hc (hbypassed.mp hb), fun hw _ => ?_, ?_, fun _ hfree => ?_⟩
    · rw [if_neg (by simp [hw])] at hacc
      omega
    · split at hacc <;> omega
    · have hno : ¬(isWrite = true ∧ cachePolicy s.cfg addr = .writeThrough) := by
        rintro ⟨hw, hp⟩
        rcases hfree with hr | hr
        · rw [hw] at hr; cases hr
        · rw [hp] at hr; cases hr
      rw [if_neg hno] at hacc
      omega
  | missedThrough hc hl hw hp =>
    subst hw
    rw [State.accessCharge_missedThrough hc hl hp] at hacc
    exact ⟨fun hb => absurd hc (hbypassed.mp hb), nofun, by omega, nofun⟩
  | @allocated v ha ho =>
    have hvictim : s.victimCharge isWrite addr v ≤ M := State.victimCharge_le hM v
    rw [State.accessCharge_allocated ha ho] at hacc
    refine ⟨fun hb => absurd ha.1 (hbypassed.mp hb), fun hw hr => ?_, by omega, nofun⟩
    rw [State.victimCharge, if_neg (by simp [hw, hr])] at hacc
    omega

end bounds

/-- Settles O28: a fault leaves the accumulator; a completed path is bounded by `AccessPath.acc_le`. -/
theorem accessChargesAreBounded : Obligations.AccessChargesAreBounded := by
  intro s t isWrite addr M hs hM hx
  rcases exec_accessOf_cases hs hx with ⟨c, rfl⟩ | ⟨path, _⟩
  · exact ⟨fun _ => Nat.le_add_right _ _, fun _ _ => Nat.le_add_right _ _, Nat.le_add_right _ _, nofun⟩
  · exact path.acc_le hM

/-! What an access may change, R38. -/

section changes
variable {s t : State} {isWrite : Bool} {addr : Addr} {e : EntryIx} {w : Way}

/-- The one line a completed access may change. -/
theorem AccessPath.line_changed (path : AccessPath s isWrite addr (.ok t)) (hne : t.line e w ≠ s.line e w) :
    s.Cacheable addr ∧ e = index addr ∧ ((isWrite = true ∧ s.lookup (index addr) (tag addr) = some w) ∨
      (s.Allocates isWrite addr ∧ s.oldestWay (index addr) = some w)) := by
  cases path with
  | bypassed => exact absurd rfl hne
  | @hit v hc hl =>
    by_cases hw : isWrite = true
    · by_cases hat : e = index addr ∧ w = v
      · exact ⟨hc, hat.1, .inl ⟨hw, hat.2 ▸ hl⟩⟩
      · exact absurd (by rw [State.line_hitAt, if_neg hat]) hne
    · rw [Bool.not_eq_true] at hw
      subst hw
      exact absurd (s.sameLines_hitAt_read addr v e w) hne
  | missedThrough => exact absurd rfl hne
  | @allocated v ha ho =>
    by_cases hat : e = index addr ∧ w = v
    · exact ⟨ha.1, hat.1, .inr ⟨ha, hat.2 ▸ ho⟩⟩
    · exact absurd (s.line_allocated_other isWrite addr v e w hat) hne

/-- The one LRU value a completed access may change, and what it becomes. -/
theorem AccessPath.lruOf_changed (path : AccessPath s isWrite addr (.ok t)) (hne : t.lruOf e ≠ s.lruOf e) :
    s.Cacheable addr ∧ e = index addr ∧
      ((∃ w, s.lookup (index addr) (tag addr) = some w ∧ t.lruOf e = touched s.cfg (s.lruOf e) w) ∨
        (s.Allocates isWrite addr ∧
          ∃ v, s.oldestWay (index addr) = some v ∧ t.lruOf e = touched s.cfg (s.lruOf e) v)) := by
  cases path with
  | bypassed => exact absurd rfl hne
  | @hit v hc hl =>
    by_cases he : e = index addr
    · subst he
      exact ⟨hc, rfl, .inl ⟨v, hl, by rw [State.lruOf_hitAt, if_pos rfl]⟩⟩
    · exact absurd (State.sameLruBut_hitAt isWrite v e he) hne
  | missedThrough => exact absurd rfl hne
  | @allocated v ha ho =>
    by_cases he : e = index addr
    · subst he
      exact ⟨ha.1, rfl, .inr ⟨ha, v, ho, by rw [State.lruOf_allocated, if_pos rfl]⟩⟩
    · exact absurd (State.sameLruBut_allocated isWrite v e he) hne

/-- An access of any block is refused, faults, is a stub's, or completes by its path in a ready block. -/
theorem exec_accessOf_answers (hx : exec (accessOf isWrite addr) s = .next t) :
    (SameLines s t ∧ SameLru s t ∧ t.enabled = s.enabled ∧ t.cfg = s.cfg ∧ t.port = s.port) ∨
      s.Ready ∧ AccessPath s isWrite addr (.ok t) := by
  rcases exec_cases hx with ⟨_, rfl⟩ | ⟨hf, hok⟩ | ⟨_, c, _, _, rfl⟩
  · exact .inl ⟨fun _ _ => rfl, fun _ => rfl, rfl, rfl, rfl⟩
  · cases hv : s.cfg.variant with
    | timing =>
      obtain ⟨c, rfl⟩ | ⟨path, _⟩ := exec_accessOf_cases ⟨hf, hv⟩ hx
      · exact .inl ⟨fun _ _ => rfl, fun _ => rfl, rfl, rfl, rfl⟩
      · exact .inr ⟨⟨hf, hv⟩, path⟩
    | passthrough =>
      rw [effectOf_accessOf_passthrough hv] at hok
      cases hok
      exact .inl ⟨fun _ _ => rfl, fun _ => rfl, rfl, rfl, rfl⟩
  · exact .inl ⟨fun _ _ => rfl, fun _ => rfl, rfl, rfl, rfl⟩

end changes

/-- Settles O29: an access that does not complete by a path keeps both arrays; of a path, `line_changed` and
`lruOf_changed` say what it may change. -/
theorem accessTouchesOneLineOfItsEntryAtMost : Obligations.AccessTouchesOneLineOfItsEntryAtMost := by
  intro s t isWrite addr hx
  rcases exec_accessOf_answers hx with ⟨hlines, hlru, hrest⟩ | ⟨hs, path⟩
  · exact ⟨fun e w hne => absurd (hlines e w) hne, fun e hne => absurd (hlru e) hne, hrest⟩
  · obtain ⟨henabled, hfault, _, hcfg, hport⟩ := path.sameControl
    exact ⟨fun e w hne => ⟨hs, hfault.trans hs.1, path.line_changed hne⟩,
      fun e hne => ⟨hs, hfault.trans hs.1, path.lruOf_changed hne⟩, henabled, hcfg, hport⟩

/-! A READ repeated, R92. -/

section repeated
variable {s t : State} {addr : Addr}

/-- Where a way is valid with the tag, the scan hits. -/
theorem State.exists_lookup_of_line {e : EntryIx} {tg : Tag} (w : Way) (hv : (s.line e w).valid = true)
    (ht : (s.line e w).tag = tg) : ∃ w', s.lookup e tg = some w' := by
  rw [← Option.isSome_iff_exists, ← Option.ne_none_iff_isSome]
  exact fun h => State.lookup_eq_none.mp h w ⟨hv, ht⟩

/-- A completed cacheable READ leaves its address cached and itself recorded. -/
theorem AccessPath.read_cached (path : AccessPath s false addr (.ok t)) (hc : s.Cacheable addr) :
    (∃ w, t.lookup (index addr) (tag addr) = some w) ∧ t.prevWrite = false ∧ t.prevArea = area s.cfg addr := by
  cases path with
  | bypassed hb => exact absurd hc (State.bypassed_iff_not_cacheable.mp hb)
  | @hit w _ hl =>
    obtain ⟨hvalid, htag⟩ := State.lookup_hits hl
    have hline := s.sameLines_hitAt_read addr w (index addr) w
    exact ⟨State.exists_lookup_of_line w (hline ▸ hvalid) (hline ▸ htag), rfl, rfl⟩
  | missedThrough _ _ hw => cases hw
  | @allocated v ha ho =>
    have hline := s.line_allocated_victim false addr v
    exact ⟨State.exists_lookup_of_line v (by rw [hline]) (by rw [hline]), rfl, rfl⟩

end repeated

/-- Settles O30: the first READ leaves its address cached with direction and area recorded, so the second one hits
without a turnaround. -/
theorem repeatedReadHitsForFree : Obligations.RepeatedReadHitsForFree := by
  intro s t addr hs hc hx hf
  obtain ⟨c, rfl⟩ | ⟨path, hfit⟩ := exec_accessOf_cases (isWrite := false) hs hx
  · cases hf
  · obtain ⟨⟨w, hl⟩, hwrite, harea⟩ := path.read_cached hc
    obtain ⟨henabled, _, _, hcfg, _⟩ := path.sameControl
    have ht : t.Ready := ⟨hf, hcfg ▸ hs.2⟩
    have hcache : t.Cacheable addr := by rw [State.Cacheable, hcfg, henabled]; exact hc
    have hfree : t.turn false addr + t.hitCharge false addr = 0 := by
      simp [State.turn, State.hitCharge, hwrite, harea, hcfg]
    refine ⟨_, exec_hit (isWrite := false) ht hcache hl ?_, rfl, ?_⟩
    · rw [hfree]
      exact hfit
    · rw [State.hitAt_acc, hfree, Nat.add_zero]

end Sys2Proof.Machine
end

section
/-! PROOF. FLUSH, CONSUME, SETEN and the reserved op codes (R106 to R116), and the fault state (R117, R120). -/

namespace Sys2Proof.Machine

/-! FLUSH, R106 to R108. -/

section flush
variable {s t : State}

/-- A FLUSH whose charge fits completes, R106. -/
theorem exec_flush (hs : s.Ready) (hfit : s.Absorbs s.flushCost) : exec .flush s = .next s.flushedAll := by
  rw [exec_eq_run, effectOf, State.byVariant_timing hs.2, flushTiming, Effect.accChecked_ok hfit, State.run_ok hs.1]
  rfl

theorem State.clearLines_of_flushed (h : ∀ e w, (s.line e w).flushed = s.line e w) : s.clearLines = s := by
  have hlines : s.clearLines.lines = s.lines :=
    State.lines_ext fun e w => (s.line_clearLines e w).trans (h e w)
  exact congrArg (fun v => { s with lines := v }) hlines

variable (s)

@[simp] theorem State.flushCost_flushedAll : s.flushedAll.flushCost = 0 := by
  simp [State.flushCost_eq_sum, writeBackCost, Line.pending, Line.flushed]

/-- A second FLUSH changes nothing. -/
theorem State.flushedAll_flushedAll : s.flushedAll.flushedAll = s.flushedAll := by
  have hclear : s.flushedAll.clearLines = s.flushedAll :=
    State.clearLines_of_flushed fun e w => by rw [State.line_flushedAll]; rfl
  have hcharge : s.flushedAll.charge 0 = s.flushedAll := rfl
  rw [State.flushedAll, State.flushCost_flushedAll, hcharge, hclear]
  rfl

end flush

/-- Settles O32: FLUSH leaves `flushedAll`, and its charge is the sum by `flushCost_eq_sum`. -/
theorem flushChargesTheSumOverDirtyLinesAndInvalidatesAll :
    Obligations.FlushChargesTheSumOverDirtyLinesAndInvalidatesAll := by
  intro s hs total hfit
  have htotal : total = s.flushCost := by simp only [total, State.flushCost_eq_sum, writeBackCost_eq]
  rw [htotal] at hfit ⊢
  exact ⟨_, exec_flush hs hfit, rfl, rfl, s.line_flushedAll, fun _ => rfl, ⟨rfl, rfl⟩, ⟨rfl, rfl, rfl, rfl, rfl⟩,
    rfl, rfl, rfl, rfl⟩

/-- Settles O33: nothing is valid in `flushedAll`, and a FLUSH of it is free and gives it back. -/
theorem flushedCacheHoldsNothing : Obligations.FlushedCacheHoldsNothing := by
  intro s t hs hx hf
  have hok := effectOf_of_exec hx hf
  rw [effectOf, State.byVariant_timing hs.2] at hok
  obtain ⟨_, hfit⟩ := Effect.accChecked_cases hok
  obtain rfl := eq_flushedAll_of_exec hs hx hf
  have hagain : s.flushedAll.Absorbs s.flushedAll.flushCost := by
    rw [State.flushCost_flushedAll]
    exact hfit
  exact ⟨s.lookup_flushedAll,
    (exec_flush (s := s.flushedAll) hs hagain).trans (congrArg _ s.flushedAll_flushedAll)⟩

/-! CONSUME, R109 to R113. -/

section consume
variable {acc : Nat} {n : Cycles}

theorem accAfterDrain_of_lt (h : n.toNat < 2 * acc) : accAfterDrain acc n = acc - n.toNat / 2 := by
  rw [accAfterDrain, if_neg (by omega), drainRatio, if_neg (by omega)]

theorem remainingCycles_of_lt (h : n.toNat < 2 * acc) : remainingCycles acc n = 0 := by
  rw [remainingCycles, if_neg (by omega), drainRatio, if_neg (by omega)]

/-- One wait state at least is drained by two cycles. -/
theorem accAfterDrain_le_pred (h : 2 ≤ n.toNat) : accAfterDrain acc n ≤ acc - 1 := by
  by_cases hfull : 2 * acc ≤ n.toNat
  · rw [accAfterDrain_of_le hfull]
    exact Nat.zero_le _
  · rw [accAfterDrain_of_lt (by omega)]
    omega

/-- One cycle drains nothing. -/
theorem accAfterDrain_of_le_one (h : n.toNat ≤ 1) : accAfterDrain acc n = acc := by
  cases acc with
  | zero => exact accAfterDrain_zero n
  | succ a =>
    rw [accAfterDrain_of_lt (by omega)]
    omega

/-- R113: at most half the cycles are drained. -/
theorem sub_accAfterDrain_le (acc : Nat) (n : Cycles) : acc - accAfterDrain acc n ≤ n.toNat / 2 := by
  by_cases hfull : 2 * acc ≤ n.toNat
  · omega
  · rw [accAfterDrain_of_lt (by omega)]
    omega

end consume

/-- Settles O36: `exec_consume`, the drain below its threshold. -/
theorem consumeWithTooFewCyclesDrainsPartly : Obligations.ConsumeWithTooFewCyclesDrainsPartly := by
  intro s n hf hpos hlt
  rw [exec_consume n hf, accAfterDrain_of_lt hlt, remainingCycles_of_lt hlt]
  exact ⟨rfl, by omega⟩

/-- The commands of a list of CONSUMEs executed: what each drains. -/
theorem execAll_consume {s : State} (ns : List Cycles) (hf : s.fault = false) :
    ∃ t, execAll (ns.map .consume) s = .next t ∧ t.acc = ns.foldl accAfterDrain s.acc := by
  induction ns generalizing s with
  | nil => exact ⟨s, rfl, rfl⟩
  | cons n ns ih =>
    obtain ⟨t, ht, hacc⟩ := @ih ((s.setAcc (accAfterDrain s.acc n)).respond (.remaining (remainingCycles s.acc n))) hf
    refine ⟨t, ?_, hacc⟩
    rw [List.map_cons, execAll, exec_consume n hf]
    exact ht

theorem foldl_accAfterDrain_eq_zero {ns : List Cycles} {acc : Nat} (h2 : ∀ n ∈ ns, 2 ≤ n.toNat)
    (hacc : acc ≤ ns.length) : ns.foldl accAfterDrain acc = 0 := by
  induction ns generalizing acc with
  | nil => exact Nat.le_zero.mp hacc
  | cons n ns ih =>
    have hdrain : accAfterDrain acc n ≤ acc - 1 := accAfterDrain_le_pred (h2 n List.mem_cons_self)
    rw [List.length_cons] at hacc
    exact ih (fun m hm => h2 m (List.mem_cons_of_mem _ hm)) (by omega)

theorem foldl_accAfterDrain_eq_self {ns : List Cycles} {acc : Nat} (h1 : ∀ n ∈ ns, n.toNat ≤ 1) :
    ns.foldl accAfterDrain acc = acc := by
  induction ns with
  | nil => rfl
  | cons n ns ih =>
    rw [List.foldl_cons, accAfterDrain_of_le_one (h1 n List.mem_cons_self)]
    exact ih fun m hm => h1 m (List.mem_cons_of_mem _ hm)

/-- Settles O37: a list of CONSUMEs folds the drain over the accumulator, by induction on the list. -/
theorem repeatedConsumeEmptiesTheAccumulator : Obligations.RepeatedConsumeEmptiesTheAccumulator := by
  intro s ns hf
  obtain ⟨t, ht, hacc⟩ := execAll_consume ns hf
  exact ⟨fun h2 hle => ⟨t, ht, hacc.trans (foldl_accAfterDrain_eq_zero h2 hle)⟩,
    fun h1 => ⟨t, ht, hacc.trans (foldl_accAfterDrain_eq_self h1)⟩⟩

/-! SETEN and the reserved op codes, R114, R115. -/

/-- Settles O38: both variants run `enableSet`. -/
theorem setenStoresItsArgument : Obligations.SetenStoresItsArgument := by
  intro s b hf
  have he : effectOf (.seten b) s = enableSet b s := s.byVariant_self _
  rw [exec_eq_run, he]
  exact State.run_ok hf

/-- Settles O40: each reserved op code runs `badOp`. -/
theorem reservedOpCodesRaiseBadOp : Obligations.ReservedOpCodesRaiseBadOp := by
  intro i s hi hf
  have he : effectOf i s = badOp := by rcases hi with rfl | rfl | rfl <;> rfl
  rw [exec_eq_run, he]
  exact ⟨State.run_error hf, rfl⟩

/-! The passthrough variant, R116. -/

/-- Settles O41: READ, WRITE and FLUSH by the variant's own effects; SETEN and CONSUME as in every unfaulted block. -/
theorem passthroughCommandsChangeNothing : Obligations.PassthroughCommandsChangeNothing := by
  intro s hf hv hacc
  refine ⟨fun isWrite addr => ⟨Config.passthroughHit s.draws, ?_⟩, ?_, fun b => setenStoresItsArgument s b hf,
    fun n => consumeOfAnEmptyAccumulatorReturnsItsArgument s n hf hacc⟩
  · rw [exec_eq_run, effectOf_accessOf_passthrough hv]
    exact State.run_ok hf
  · rw [exec_eq_run, effectOf, State.byVariant_passthrough hv]
    exact State.run_ok hf

/-! Faults, R117, R120. -/

/-- Settles O42: a faulted block runs no effect. -/
theorem faultedBlockRefusesEveryCommand : Obligations.FaultedBlockRefusesEveryCommand := by
  intro i s hf
  rw [exec_eq_run]
  exact State.run_faulted hf _

/-- Settles O43: with total orders every access takes a path that completes, an unbounded accumulator takes every charge,
and the other commands charge nothing. -/
theorem noFaultWithSoundLruAndUnboundedAccumulator :
    Obligations.NoFaultWithSoundLruAndUnboundedAccumulator := by
  intro i s hlru hwidth hf h5 h6 h7
  have habsorbs : ∀ n, s.Absorbs n := fun n => by rw [State.Absorbs, hwidth]; rfl
  have haccess : ∀ isWrite addr, ∃ t, exec (accessOf isWrite addr) s = .next t ∧ t.fault = false ∧
      t.faultCause = s.faultCause ∧ t.response.rspFault = false := by
    intro isWrite addr
    cases hv : s.cfg.variant with
    | timing =>
      obtain ⟨t, path⟩ := exists_accessPath_ok (isWrite := isWrite) (addr := addr) fun _ => hlru _
      obtain ⟨_, hfault, hcause, _⟩ := path.sameControl
      exact ⟨t, path.exec_ok ⟨hf, hv⟩ (habsorbs _), hfault.trans hf, hcause, by rw [path.response]; rfl⟩
    | passthrough =>
      refine ⟨s.drawn.respond (.access (Config.passthroughHit s.draws)), ?_, hf, rfl, rfl⟩
      rw [exec_eq_run, effectOf_accessOf_passthrough hv]
      exact State.run_ok hf
  cases i with
  | read addr => exact haccess false addr
  | write addr => exact haccess true addr
  | flush =>
    cases hv : s.cfg.variant with
    | timing => exact ⟨_, exec_flush ⟨hf, hv⟩ (habsorbs _), hf, rfl, rfl⟩
    | passthrough =>
      refine ⟨s.respond .done, ?_, hf, rfl, rfl⟩
      rw [exec_eq_run, effectOf, State.byVariant_passthrough hv]
      exact State.run_ok hf
  | seten b => exact ⟨_, setenStoresItsArgument s b hf, hf, rfl, rfl⟩
  | consume n => exact ⟨_, exec_consume n hf, hf, rfl, rfl⟩
  | reserved5 => exact absurd rfl h5
  | reserved6 => exact absurd rfl h6
  | reserved7 => exact absurd rfl h7

end Sys2Proof.Machine
end

section
/-! PROOF. Every step: the port (R129 to R131), what a command can do to the accumulator, the counters and the
configuration (R27, R28, R39), and the three invariants (R22 to R28, R34, R61, R104, R116, R118). -/

namespace Sys2Proof.Machine

/-! The port. -/

section port
variable {s : State} {rest : List PortEvent}

theorem step_of_nil (h : s.port = []) : step s = .next s := by
  simp [step, State.takeEvent, h]

theorem step_of_resetInput (h : s.port = .resetInput :: rest) :
    step s = .next { State.resetWith s.cfg with port := rest, draws := s.draws } := by
  simp [step, State.takeEvent, h, State.resetBlock]

theorem step_of_command {w : CommandWord} (h : s.port = .command w :: rest) :
    step s = exec (decode w) { s with port := rest } := by
  simp [step, State.takeEvent, h]

end port

/-- A number the table's decoder accepts is decoded as the 67-bit word it stands for. -/
theorem decode_of_decodeTableWord {nbits w : Nat} {i : Instr} (h : decodeTableWord nbits w = some i) :
    decode (BitVec.ofNat 67 (w % 2 ^ nbits)) = i := by
  unfold decodeTableWord decodeNat at h
  split at h
  · rename_i j hj
    cases h
    split at hj
    · injection hj
    · cases hj
  · cases h

/-- Settles O51: the equations of `step`; a presented word is taken off the port again. -/
theorem stepExecutesTheDecodedCommand : Obligations.StepExecutesTheDecodedCommand := by
  refine ⟨fun _ _ _ => step_of_command, fun _ => step_of_nil, fun s nbits w i h => ?_⟩
  rw [← decode_of_decodeTableWord h]
  exact step_of_command rfl

/-- Settles O44: the reset input answers a state, and so does every command. -/
theorem everyStepCompletes : Obligations.EveryStepCompletes := by
  intro s
  cases hp : s.port with
  | nil => exact ⟨s, step_of_nil hp⟩
  | cons ev rest =>
    cases ev with
    | resetInput => exact ⟨_, step_of_resetInput hp⟩
    | command w =>
      rw [step_of_command hp]
      exact exists_exec_eq _ _

/-- What every command keeps and the reset input establishes, every step keeps. -/
theorem step_preserves {P : State → Prop} (hport : ∀ s rest, P s → P { s with port := rest })
    (hreset : ∀ s, P s → P s.resetBlock) (hexec : ∀ i s t, P s → Answers s i t → P t) {s t : State} (hs : P s)
    (h : step s = .next t) : P t := by
  rcases step_cases h with ⟨_, rfl⟩ | ⟨rest, _, rfl⟩ | ⟨w, rest, _, hx⟩
  · exact hs
  · exact hreset _ (hport s rest hs)
  · exact hexec _ _ _ (hport s rest hs) (exec_answers hx)

/-- Settles O45: while the fault stands a command is refused, which keeps it, so the event was the reset input. -/
theorem onlyResetLeavesTheFaultState : Obligations.OnlyResetLeavesTheFaultState := by
  refine ⟨fun s t hf h ht => ?_, fun _ _ => step_of_resetInput⟩
  rcases step_cases h with ⟨_, rfl⟩ | ⟨rest, hp, _⟩ | ⟨w, rest, _, hx⟩
  · rw [hf] at ht; cases ht
  · exact ⟨rest, hp⟩
  · rw [faultedBlockRefusesEveryCommand _ { s with port := rest } hf] at hx
    cases hx
    rw [hf] at ht; cases ht

/-! The configuration, R39. -/

section commands
variable {s t : State} {i : Instr}

theorem Answers.cfg (h : Answers s i t) : t.cfg = s.cfg := by
  cases h with
  | refused => rfl
  | raised => rfl
  | completed _ h =>
    cases h with
    | access _ path =>
      obtain ⟨_, _, _, hcfg, _⟩ := path.sameControl
      exact hcfg
    | stubAccess => rfl
    | flush => rfl
    | stubFlush => rfl
    | consume => rfl
    | seten => rfl

/-! The line array and the LRU array, R38. -/

/-- A command keeps both arrays, or it is a FLUSH or an access that completed. -/
theorem Answers.arrays (h : Answers s i t) : SameLines s t ∧ SameLru s t ∨ t = s.flushedAll ∨
    ∃ isWrite addr, AccessPath s isWrite addr (.ok t) := by
  have hkept {u : State} (hlines : u.lines = s.lines) (hlru : u.lru = s.lru) : SameLines s u ∧ SameLru s u :=
    ⟨fun e w => by rw [State.line, State.line, hlines], fun e => by rw [State.lruOf, State.lruOf, hlru]⟩
  cases h with
  | refused => exact .inl (hkept rfl rfl)
  | raised => exact .inl (hkept rfl rfl)
  | completed _ h =>
    cases h with
    | access _ path => exact .inr (.inr ⟨_, _, path⟩)
    | stubAccess => exact .inl (hkept rfl rfl)
    | flush => exact .inr (.inl rfl)
    | stubFlush => exact .inl (hkept rfl rfl)
    | consume => exact .inl (hkept rfl rfl)
    | seten => exact .inl (hkept rfl rfl)

/-! The accumulator, R27, R125. -/

/-- A command keeps the accumulator, or it is CONSUME, or it is an access or FLUSH, which add to it. -/
theorem Answers.acc_cases (h : Answers s i t) : t.acc = s.acc ∨
    (∃ n, i = .consume n ∧ t.acc = accAfterDrain s.acc n) ∨
      (i = .flush ∨ ∃ isWrite addr, i = accessOf isWrite addr) ∧ s.acc ≤ t.acc := by
  cases h with
  | refused => exact .inl rfl
  | raised => exact .inl rfl
  | completed _ h =>
    cases h with
    | @access isWrite addr _ _ path =>
      exact .inr (.inr ⟨.inr ⟨isWrite, addr, rfl⟩, path.acc ▸ Nat.le_add_right _ _⟩)
    | stubAccess => exact .inl rfl
    | flush => exact .inr (.inr ⟨.inl rfl, Nat.le_add_right s.acc s.flushCost⟩)
    | stubFlush => exact .inl rfl
    | consume n => exact .inr (.inl ⟨n, rfl, rfl⟩)
    | seten => exact .inl rfl

/-! The counters, R28. -/

/-- A counter was kept or incremented once. -/
def Counter.KeptOrBumped (c : Config) (k k' : Counter) : Prop := k' = k ∨ ∃ d, k' = k.bump c d

theorem Counter.KeptOrBumped.value_le {c : Config} {k k' : Counter} (h : k.KeptOrBumped c k') (hp : k'.past = false) :
    k.value ≤ k'.value := by
  rcases h with rfl | ⟨d, rfl⟩
  · exact Nat.le_refl _
  · cases hu : k.unspecified c with
    | true => rw [Counter.bump_of_unspecified hu] at hp; cases hp
    | false => rw [Counter.bump_of_specified hu]; exact Nat.le_succ _

theorem Counter.KeptOrBumped.sound {c : Config} {k k' : Counter} (h : k.KeptOrBumped c k') (hk : k.Sound c) :
    k'.Sound c := by
  rcases h with rfl | ⟨d, rfl⟩
  · exact hk
  · intro hp
    cases hu : k.unspecified c with
    | true => rw [Counter.bump_of_unspecified hu] at hp; cases hp
    | false =>
      rw [Counter.bump_of_specified hu]
      rw [Counter.unspecified, Bool.or_eq_false_iff, Bool.not_eq_false'] at hu
      exact hu.2

/-- The counters of a completed access: `reads`, and one of the other three, are incremented. -/
theorem AccessPath.counters {isWrite : Bool} {addr : Addr} (path : AccessPath s isWrite addr (.ok t)) :
    s.cnt.reads.KeptOrBumped s.cfg t.cnt.reads ∧ s.cnt.hits.KeptOrBumped s.cfg t.cnt.hits ∧
      s.cnt.misses.KeptOrBumped s.cfg t.cnt.misses ∧ s.cnt.disabled.KeptOrBumped s.cfg t.cnt.disabled := by
  cases path with
  | bypassed => exact ⟨.inr ⟨_, rfl⟩, .inl rfl, .inl rfl, .inr ⟨_, rfl⟩⟩
  | hit => exact ⟨.inr ⟨_, rfl⟩, .inr ⟨_, rfl⟩, .inl rfl, .inl rfl⟩
  | missedThrough => exact ⟨.inr ⟨_, rfl⟩, .inl rfl, .inr ⟨_, rfl⟩, .inl rfl⟩
  | allocated => exact ⟨.inr ⟨_, rfl⟩, .inl rfl, .inr ⟨_, rfl⟩, .inl rfl⟩

/-- A command keeps the counters, or it is FLUSH, or an access that keeps or increments each. -/
theorem Answers.counters (h : Answers s i t) : t.cnt = s.cnt ∨ i = .flush ∨
    (∃ isWrite addr, i = accessOf isWrite addr) ∧
      s.cnt.reads.KeptOrBumped s.cfg t.cnt.reads ∧ s.cnt.hits.KeptOrBumped s.cfg t.cnt.hits ∧
      s.cnt.misses.KeptOrBumped s.cfg t.cnt.misses ∧ s.cnt.disabled.KeptOrBumped s.cfg t.cnt.disabled := by
  cases h with
  | refused => exact .inl rfl
  | raised => exact .inl rfl
  | completed _ h =>
    cases h with
    | @access isWrite addr _ _ path => exact .inr (.inr ⟨⟨isWrite, addr, rfl⟩, path.counters⟩)
    | stubAccess => exact .inl rfl
    | flush => exact .inr (.inl rfl)
    | stubFlush => exact .inl rfl
    | consume => exact .inl rfl
    | seten => exact .inl rfl

end commands

/-- Settles O48: the reset input keeps the configuration by its definition, every command by `Answers.cfg`. -/
theorem noStepChangesTheConfiguration : Obligations.NoStepChangesTheConfiguration := by
  intro s t h
  exact step_preserves (P := fun u => u.cfg = s.cfg) (fun _ _ hu => hu) (fun _ hu => hu)
    (fun _ _ _ hu ha => ha.cfg.trans hu) rfl h

/-- Settles O46: by `acc_cases`; what CONSUME drains is bounded by `sub_accAfterDrain_le`. -/
theorem onlyConsumeLowersTheAccumulator : Obligations.OnlyConsumeLowersTheAccumulator := by
  intro i s t hx
  rcases (exec_answers hx).acc_cases with hsame | ⟨n, hi, hacc⟩ | ⟨hi, hle⟩
  · exact ⟨fun hlt => absurd hsame hlt.ne, fun hlt => absurd hsame hlt.ne'⟩
  · rw [hacc]
    exact ⟨fun _ => ⟨n, hi, sub_accAfterDrain_le s.acc n⟩, fun hlt => absurd hlt (accAfterDrain_le s.acc n).not_gt⟩
  · exact ⟨fun hlt => absurd hlt hle.not_gt, fun _ => hi⟩

/-- Settles O47: a counter of an access is kept or incremented once, which lowers it only past its width. -/
theorem onlyAccessesCountAndOnlyFlushClears : Obligations.OnlyAccessesCountAndOnlyFlushClears := by
  intro i s t hx
  rcases (exec_answers hx).counters with hcnt | hflush | ⟨haccess, hreads, hhits, hmisses, hdisabled⟩
  · refine ⟨fun hne => absurd hcnt hne, fun _ => ?_⟩
    rw [hcnt]
    exact ⟨fun _ => Nat.le_refl _, fun _ => Nat.le_refl _, fun _ => Nat.le_refl _, fun _ => Nat.le_refl _⟩
  · exact ⟨fun _ => .inl hflush, fun hne => absurd hflush hne⟩
  · exact ⟨fun _ => .inr haccess, fun _ => ⟨hreads.value_le, hhits.value_le, hmisses.value_le, hdisabled.value_le⟩⟩

/-! The invariants hold at reset. -/

section reset
variable (c : Config)

theorem linesSound_of_invalid {s : State} (h : ∀ e w, (s.line e w).valid = false ∧ (s.line e w).dirty = false) :
    LinesSound s where
  tagsUnique e w _ hv := by rw [(h e w).1] at hv; cases hv
  dirtyValid e w hd := by rw [(h e w).2] at hd; cases hd
  writeThroughClean e w _ := (h e w).2
  noDisabledLine e w hv := by rw [(h e w).1] at hv; cases hv
  tagInEntry e w hv := by rw [(h e w).1] at hv; cases hv

theorem linesSound_resetWith : LinesSound (State.resetWith c) :=
  linesSound_of_invalid fun e w => State.line_resetWith c e w ▸ ⟨rfl, rfl⟩

theorem lruSound_resetWith : LruSound (State.resetWith c) := by
  intro e
  rw [State.lruOf_resetWith]
  decide

theorem Counter.sound_zero : Counter.zero.Sound c := fun _ => fitsWidth_zero _

theorem registersSound_resetWith : RegistersSound (State.resetWith c) where
  accFits := fitsWidth_zero _
  causeOfFault := ⟨fun _ => rfl, fun _ => rfl⟩
  readsSound := Counter.sound_zero c
  hitsSound := Counter.sound_zero c
  missesSound := Counter.sound_zero c
  disabledSound := Counter.sound_zero c
  stubNeverCharges _ := rfl
  stubNeverCounts _ := rfl
  stubNeverInstalls _ := State.line_resetWith c

end reset

/-- Settles O56: the three invariants at reset. -/
theorem resetMeetsTheInvariants : Obligations.ResetMeetsTheInvariants :=
  fun c => ⟨linesSound_resetWith c, lruSound_resetWith c, registersSound_resetWith c⟩

/-! The line array. -/

section lines
variable {s t : State} {i : Instr} {isWrite : Bool} {addr : Addr} {e : EntryIx} {v : Way} {l : Line}

/-- R61: the tag and the entry number of an address share bits [11:10]. -/
theorem extractLsb_tag_eq_index (addr : Addr) : (tag addr).extractLsb 1 0 = (index addr).extractLsb 7 6 := by
  refine BitVec.eq_of_getLsbD_eq fun i hi => ?_
  have htag : 10 + (0 + i) = 4 + (6 + i) := by omega
  have hintag : 0 + i < 31 - 10 + 1 := by omega
  have hinindex : 6 + i < 11 - 4 + 1 := by omega
  simp only [tag, index, BitVec.getLsbD_extractLsb, htag, hintag, hinindex]

theorem LinesSound.of_sameLines (h : LinesSound s) (hlines : SameLines s t) (hcfg : t.cfg = s.cfg) :
    LinesSound t := by
  obtain ⟨hunique, hdirty, hthrough, hdisabled, htag⟩ := h
  constructor
  · simpa only [hlines] using hunique
  · simpa only [hlines] using hdirty
  · simpa only [hlines, hcfg] using hthrough
  · simpa only [hlines, hcfg] using hdisabled
  · simpa only [hlines] using htag

/-- Writing a valid line keeps the invariants, if the line meets them and no other valid way has its tag. -/
theorem LinesSound.of_writtenLine (h : LinesSound s) (hcfg : t.cfg = s.cfg)
    (hline : ∀ e' w', t.line e' w' = if e' = e ∧ w' = v then l else s.line e' w') (hvalid : l.valid = true)
    (hunique : ∀ w, w ≠ v → (s.line e w).valid = true → (s.line e w).tag ≠ l.tag)
    (hthrough : cachePolicy s.cfg (lineAddr l.tag) = .writeThrough → l.dirty = false)
    (hdisabled : cachePolicy s.cfg (lineAddr l.tag) ≠ .disabled)
    (htag : l.tag.extractLsb 1 0 = e.extractLsb 7 6) : LinesSound t where
  tagsUnique e' w w' := by
    rw [hline, hline]
    split_ifs with hw hw' hw'
    · exact fun _ _ _ => hw.2.trans hw'.2.symm
    · rw [hw.1] at hw' ⊢
      exact fun _ hv ht => absurd ht.symm (hunique w' (fun hn => hw' ⟨rfl, hn⟩) hv)
    · rw [hw'.1] at hw ⊢
      exact fun hv _ ht => absurd ht (hunique w (fun hn => hw ⟨rfl, hn⟩) hv)
    · exact h.tagsUnique e' w w'
  dirtyValid e' w := by
    rw [hline]
    split
    · exact fun _ => hvalid
    · exact h.dirtyValid e' w
  writeThroughClean e' w := by
    rw [hline, hcfg]
    split
    · exact hthrough
    · exact h.writeThroughClean e' w
  noDisabledLine e' w := by
    rw [hline, hcfg]
    split
    · exact fun _ => hdisabled
    · exact h.noDisabledLine e' w
  tagInEntry e' w := by
    rw [hline]
    split
    · rename_i hw
      rw [hw.1]
      exact fun _ => htag
    · exact h.tagInEntry e' w

/-- A completed access keeps the invariants: the line it writes has the address's tag, whose line address has the
address's policy. -/
theorem AccessPath.linesSound (path : AccessPath s isWrite addr (.ok t)) (h : LinesSound s) : LinesSound t := by
  cases path with
  | bypassed => exact h.of_sameLines (fun _ _ => rfl) rfl
  | @hit w hc hl =>
    obtain ⟨hvalid, htag⟩ := State.lookup_hits hl
    have htag' : (s.hitLine isWrite addr w).tag = tag addr := (s.hitLine_tag isWrite addr w).trans htag
    refine h.of_writtenLine rfl (s.line_hitAt isWrite addr w) ((s.hitLine_valid isWrite addr w).trans hvalid) ?_ ?_ ?_ ?_
    · intro w' hne hvalid' heq
      exact hne (h.tagsUnique _ _ _ hvalid' hvalid (heq.trans (htag'.trans htag.symm)))
    · rw [htag', cachePolicy_lineAddr_tag]
      intro hp
      cases isWrite with
      | true => simp [State.hitLine, Line.writeHit, hp]
      | false => exact h.writeThroughClean _ _ (by rw [htag, cachePolicy_lineAddr_tag, hp])
    · rw [htag', cachePolicy_lineAddr_tag]
      exact hc.1
    · rw [htag']
      exact extractLsb_tag_eq_index addr
  | missedThrough => exact h.of_sameLines (fun _ _ => rfl) rfl
  | @allocated v ha ho =>
    obtain ⟨hc, hl, hp⟩ := ha
    refine h.of_writtenLine rfl (s.line_allocated isWrite addr v) rfl ?_ ?_ ?_ ?_
    · exact fun w _ hvalid htag => State.lookup_eq_none.mp hl w ⟨hvalid, htag⟩
    · rw [cachePolicy_lineAddr_tag]
      intro hthrough
      cases isWrite with
      | true => exact absurd hthrough (hp rfl)
      | false => rfl
    · rw [cachePolicy_lineAddr_tag]
      exact hc.1
    · exact extractLsb_tag_eq_index addr

theorem Answers.linesSound (h : Answers s i t) (hs : LinesSound s) : LinesSound t := by
  rcases h.arrays with ⟨hlines, _⟩ | rfl | ⟨_, _, path⟩
  · exact hs.of_sameLines hlines h.cfg
  · exact linesSound_of_invalid fun e w => s.line_flushedAll e w ▸ ⟨rfl, rfl⟩
  · exact path.linesSound hs

end lines

/-- Settles O52: every command keeps the invariants, and reset meets them. -/
theorem everyStepKeepsTheLinesSound : Obligations.EveryStepKeepsTheLinesSound := by
  intro s t hs h
  exact step_preserves (P := LinesSound) (fun _ _ hu => hu.of_sameLines (fun _ _ => rfl) rfl)
    (fun u _ => (linesSound_resetWith u.cfg).of_sameLines (fun _ _ => rfl) rfl)
    (fun _ _ _ hu ha => ha.linesSound hu) hs h

/-! The LRU array. -/

section lru
variable {s t : State} {i : Instr}

/-- A completed access writes no LRU value but a masked one. -/
theorem AccessPath.lruSound {isWrite : Bool} {addr : Addr} (path : AccessPath s isWrite addr (.ok t))
    (hmasks : MasksClosed s.cfg) (h : LruSound s) : LruSound t := by
  intro e
  by_cases hne : t.lruOf e = s.lruOf e
  · rw [hne]
    exact h e
  · obtain ⟨_, _, ⟨w, _, hw⟩ | ⟨_, v, _, hv⟩⟩ := path.lruOf_changed hne
    · rw [hw]
      exact hmasks _ w (h e)
    · rw [hv]
      exact hmasks _ v (h e)

theorem Answers.lruSound (h : Answers s i t) (hmasks : MasksClosed s.cfg) (hs : LruSound s) : LruSound t := by
  rcases h.arrays with ⟨_, hlru⟩ | rfl | ⟨_, _, path⟩
  · exact fun e => hlru e ▸ hs e
  · exact hs
  · exact path.lruSound hmasks hs

end lru

/-- Settles O53: every command keeps the orders under closed masks, the configuration stays, and reset has orders. -/
theorem everyStepKeepsTheLruSound : Obligations.EveryStepKeepsTheLruSound := by
  intro s t hmasks hs h
  exact step_preserves (P := fun u => LruSound u ∧ MasksClosed u.cfg) (fun _ _ hu => hu)
    (fun u hu => ⟨lruSound_resetWith u.cfg, hu.2⟩)
    (fun _ _ _ hu ha => ⟨ha.lruSound hu.2 hu.1, ha.cfg ▸ hu.2⟩) ⟨hs, hmasks⟩ h

/-! The registers. -/

section registers
variable {s t : State} {i : Instr}

/-- A completed access keeps the registers sound: its accumulator was checked, and its counters were incremented. -/
theorem AccessPath.registersSound {isWrite : Bool} {addr : Addr} (path : AccessPath s isWrite addr (.ok t))
    (hv : s.cfg.variant = .timing) (hfit : fitsWidth t.cfg.accWidth t.acc = true) (h : RegistersSound s) :
    RegistersSound t := by
  obtain ⟨_, hfault, hcause, hcfg, _⟩ := path.sameControl
  obtain ⟨hreads, hhits, hmisses, hdisabled⟩ := path.counters
  have hstub : t.cfg.variant ≠ .passthrough := by rw [hcfg, hv]; nofun
  refine ⟨hfit, ?_, ?_, ?_, ?_, ?_, fun hp => absurd hp hstub, fun hp => absurd hp hstub, fun hp => absurd hp hstub⟩
  · rw [hfault, hcause]
    exact h.causeOfFault
  · exact hcfg ▸ hreads.sound h.readsSound
  · exact hcfg ▸ hhits.sound h.hitsSound
  · exact hcfg ▸ hmisses.sound h.missesSound
  · exact hcfg ▸ hdisabled.sound h.disabledSound

theorem registersSound_flushedAll (hv : s.cfg.variant = .timing)
    (hfit : fitsWidth s.cfg.accWidth (s.acc + s.flushCost) = true) (h : RegistersSound s) :
    RegistersSound s.flushedAll := by
  have hstub : s.flushedAll.cfg.variant ≠ .passthrough := by rw [State.flushedAll_cfg, hv]; nofun
  exact ⟨hfit, h.causeOfFault, Counter.sound_zero _, Counter.sound_zero _, Counter.sound_zero _, Counter.sound_zero _,
    fun hp => absurd hp hstub, fun hp => absurd hp hstub, fun hp => absurd hp hstub⟩

theorem Answers.registersSound (h : Answers s i t) (hs : RegistersSound s) : RegistersSound t := by
  cases h with
  | refused => exact { hs with }
  | raised _ hc => exact { hs with causeOfFault := ⟨nofun, fun hnone => absurd hnone hc⟩ }
  | completed _ h =>
    cases h with
    | access hv path hfit => exact path.registersSound hv hfit hs
    | stubAccess => exact { hs with }
    | flush hv hfit => exact registersSound_flushedAll hv hfit hs
    | stubFlush => exact { hs with }
    | consume n =>
      refine { hs with accFits := fitsWidth_mono (accAfterDrain_le s.acc n) hs.accFits, stubNeverCharges := fun hp => ?_ }
      exact Nat.le_zero.mp (hs.stubNeverCharges hp ▸ accAfterDrain_le s.acc n)
    | seten => exact { hs with }

end registers

/-- Settles O55: every command keeps the registers sound, and reset meets them. -/
theorem everyStepKeepsTheRegistersSound : Obligations.EveryStepKeepsTheRegistersSound := by
  intro s t hs h
  exact step_preserves (P := RegistersSound) (fun _ _ hu => { hu with })
    (fun u _ => { registersSound_resetWith u.cfg with }) (fun _ _ _ hu ha => ha.registersSound hu) hs h

end Sys2Proof.Machine
end

section
/-! PROOF. What influences nothing: the enable flag without gating (R30), the session counters (R28) and the tags of
invalid lines (R23). Each is a relation of states that effects, commands and steps carry along; the lifting from
effects to steps is proved once. -/

namespace Sys2Proof.Machine

/-! Relations of states, carried along by effects, commands and steps. -/

/-- Two effects that leave related states or raise one fault. -/
inductive Related (R : State → State → Prop) : Effect → Effect → Prop
  | ok {t t' : State} (h : R t t') : Related R (.ok t) (.ok t')
  | error (c : FaultCause) : Related R (.error c) (.error c)

/-- A relation that holds the fault state, the configuration and the accumulator equal and is carried along by ending a
command without its effect. -/
structure Carried (R : State → State → Prop) : Prop where
  fault : ∀ {s s'}, R s s' → s'.fault = s.fault
  cfg : ∀ {s s'}, R s s' → s'.cfg = s.cfg
  acc : ∀ {s s'}, R s s' → s'.acc = s.acc
  refuse : ∀ {s s'}, R s s' → R s.refuse s'.refuse
  raiseFault : ∀ {s s'} c, R s s' → R (s.raiseFault c) (s'.raiseFault c)

section related
variable {R : State → State → Prop} {s s' t : State} {i : Instr}

theorem Related.accChecked {r r' : Effect} (hR : Carried R) (h : Related R r r') :
    Related R r.accChecked r'.accChecked := by
  cases h with
  | error c => exact .error c
  | @ok t t' h =>
    by_cases hfit : fitsWidth t.cfg.accWidth t.acc = true
    · have hfit' : fitsWidth t'.cfg.accWidth t'.acc = true := by rwa [hR.cfg h, hR.acc h]
      rw [Effect.accChecked_ok hfit, Effect.accChecked_ok hfit']
      exact .ok h
    · have hfit' : ¬fitsWidth t'.cfg.accWidth t'.acc = true := by rwa [hR.cfg h, hR.acc h]
      rw [Effect.accChecked_overflow hfit, Effect.accChecked_overflow hfit']
      exact .error _

/-- Related effects of related states answer related states. -/
theorem exec_related (hR : Carried R) (h : R s s') (he : Related R (effectOf i s) (effectOf i s'))
    (hx : exec i s = .next t) : ∃ t', exec i s' = .next t' ∧ R t t' := by
  have hf' := hR.fault h
  rw [exec_eq_run] at hx ⊢
  generalize effectOf i s = r, effectOf i s' = r' at he hx ⊢
  cases hf : s.fault with
  | true =>
    rw [State.run_faulted hf] at hx
    cases hx
    exact ⟨_, State.run_faulted (hf'.trans hf) _, hR.refuse h⟩
  | false =>
    cases he with
    | ok ht =>
      rw [State.run_ok hf] at hx
      cases hx
      exact ⟨_, State.run_ok (hf'.trans hf), ht⟩
    | error c =>
      rw [State.run_error hf] at hx
      cases hx
      exact ⟨_, State.run_error (hf'.trans hf), hR.raiseFault c h⟩

/-- An access takes the same path from two states that agree on what decides it, so it is enough to relate what the
paths leave. -/
theorem accessTiming_related {isWrite : Bool} {addr : Addr} (hcfg : s'.cfg = s.cfg)
    (hcacheable : s'.Cacheable addr ↔ s.Cacheable addr)
    (hlookup : s'.lookup (index addr) (tag addr) = s.lookup (index addr) (tag addr))
    (holdest : s'.oldestWay (index addr) = s.oldestWay (index addr))
    (hbypassed : R (s.countRead.disabledAccess addr) (s'.countRead.disabledAccess addr))
    (hhit : ∀ w, s.lookup (index addr) (tag addr) = some w → R (s.hitAt isWrite addr w) (s'.hitAt isWrite addr w))
    (hthrough : R (s.missedThrough addr) (s'.missedThrough addr))
    (hallocated : ∀ v, R (s.allocated isWrite addr v) (s'.allocated isWrite addr v)) :
    Related R (accessTiming isWrite addr s) (accessTiming isWrite addr s') := by
  have hallocates (ha : s.Allocates isWrite addr) : s'.Allocates isWrite addr :=
    ⟨hcacheable.mpr ha.1, hlookup.trans ha.2.1, hcfg ▸ ha.2.2⟩
  have path := accessPath s isWrite addr
  generalize accessTiming isWrite addr s = r at path
  cases path with
  | bypassed hb =>
    have hb' : s'.Bypassed addr := by
      rwa [State.bypassed_iff_not_cacheable, hcacheable, ← State.bypassed_iff_not_cacheable]
    rw [(AccessPath.bypassed hb').eq]
    exact .ok hbypassed
  | hit hc hl =>
    rw [(AccessPath.hit (hcacheable.mpr hc) (hlookup.trans hl)).eq]
    exact .ok (hhit _ hl)
  | missedThrough hc hl hw hp =>
    rw [(AccessPath.missedThrough (hcacheable.mpr hc) (hlookup.trans hl) hw (hcfg ▸ hp)).eq]
    exact .ok hthrough
  | allocated ha ho =>
    rw [(AccessPath.allocated (hallocates ha) (holdest.trans ho)).eq]
    exact .ok (hallocated _)
  | invalid ha ho =>
    rw [(AccessPath.invalid (hallocates ha) (holdest.trans ho)).eq]
    exact .error _

/-- The effects of a command are related where those of its variant are. -/
theorem effectOf_related (hR : Carried R) (h : R s s')
    (haccess : s.cfg.variant = .timing → ∀ isWrite addr,
      Related R (accessTiming isWrite addr s) (accessTiming isWrite addr s'))
    (hstub : s.cfg.variant = .passthrough → Related R (passthroughAccess s) (passthroughAccess s'))
    (hflush : s.cfg.variant = .timing → R s.flushedAll s'.flushedAll) (hdone : R (s.respond .done) (s'.respond .done))
    (hseten : ∀ b, i = .seten b → R ((s.setEnabled b).respond .done) ((s'.setEnabled b).respond .done))
    (hconsume : ∀ n r, R ((s.setAcc n).respond r) ((s'.setAcc n).respond r)) :
    Related R (effectOf i s) (effectOf i s') := by
  have hv' : s'.cfg.variant = s.cfg.variant := by rw [hR.cfg h]
  have hacc : ∀ isWrite addr, Related R (s.byVariant (accessTiming isWrite addr s).accChecked (passthroughAccess s))
      (s'.byVariant (accessTiming isWrite addr s').accChecked (passthroughAccess s')) := by
    intro isWrite addr
    cases hv : s.cfg.variant with
    | timing =>
      rw [State.byVariant_timing hv, State.byVariant_timing (hv'.trans hv)]
      exact (haccess hv isWrite addr).accChecked hR
    | passthrough =>
      rw [State.byVariant_passthrough hv, State.byVariant_passthrough (hv'.trans hv)]
      exact hstub hv
  cases i with
  | read addr => exact hacc false addr
  | write addr => exact hacc true addr
  | flush =>
    cases hv : s.cfg.variant with
    | timing =>
      rw [effectOf, effectOf, State.byVariant_timing hv, State.byVariant_timing (hv'.trans hv)]
      exact (Related.ok (hflush hv)).accChecked hR
    | passthrough =>
      rw [effectOf, effectOf, State.byVariant_passthrough hv, State.byVariant_passthrough (hv'.trans hv)]
      exact .ok hdone
  | seten b =>
    rw [effectOf, effectOf, State.byVariant_self, State.byVariant_self]
    exact .ok (hseten b rfl)
  | consume n =>
    rw [effectOf, effectOf, State.byVariant_self, State.byVariant_self, drained, drained, hR.acc h]
    exact .ok (hconsume _ _)
  | reserved5 => exact .error _
  | reserved6 => exact .error _
  | reserved7 => exact .error _

/-- A relation that every command and the reset input carry along, every step carries along. -/
theorem step_related (hport : ∀ {s s'}, R s s' → s'.port = s.port)
    (htake : ∀ {s s'} rest, R s s' → R { s with port := rest } { s' with port := rest })
    (hreset : ∀ {s s'}, R s s' → R s.resetBlock s'.resetBlock)
    (hexec : ∀ {i s s' t}, R s s' → exec i s = .next t → ∃ t', exec i s' = .next t' ∧ R t t')
    (h : R s s') (hx : step s = .next t) : ∃ t', step s' = .next t' ∧ R t t' := by
  have hp' := hport h
  rcases step_cases hx with ⟨hp, rfl⟩ | ⟨rest, hp, rfl⟩ | ⟨w, rest, hp, hx⟩
  · exact ⟨s', step_of_nil (hp'.trans hp), h⟩
  · exact ⟨_, step_of_resetInput (hp'.trans hp), hreset (htake rest h)⟩
  · rw [step_of_command (hp'.trans hp)]
    exact hexec (htake rest h) hx

end related

/-! The enable flag, R30, R114. -/

/-- Two states that differ in the enable flag at most, the second having the value `b`. -/
def EnabledAs (b : Bool) (s s' : State) : Prop := s' = s.setEnabled b

theorem carried_enabledAs (b : Bool) : Carried (EnabledAs b) where
  fault h := h ▸ rfl
  cfg h := h ▸ rfl
  acc h := h ▸ rfl
  refuse h := h ▸ rfl
  raiseFault _ h := h ▸ rfl

/-- Settles O39: without gating the flag decides no path, and what each path leaves keeps it. -/
theorem enableFlagIsUnreadWithoutGating : Obligations.EnableFlagIsUnreadWithoutGating := by
  intro i s b hgating hi
  have haccess : ∀ isWrite addr,
      Related (EnabledAs b) (accessTiming isWrite addr s) (accessTiming isWrite addr (s.setEnabled b)) := by
    intro isWrite addr
    have hcacheable : (s.setEnabled b).Cacheable addr ↔ s.Cacheable addr := by simp [State.Cacheable, hgating]
    exact accessTiming_related rfl hcacheable rfl rfl rfl (fun _ _ => rfl) rfl (fun _ => rfl)
  have heffect : Related (EnabledAs b) (effectOf i s) (effectOf i (s.setEnabled b)) :=
    effectOf_related (carried_enabledAs b) rfl (fun _ => haccess) (fun _ => .ok rfl) (fun _ => rfl) rfl
      (fun b' hb' => absurd hb' (hi b')) (fun _ _ => rfl)
  obtain ⟨t, ht⟩ := exists_exec_eq i s
  obtain ⟨t', ht', rfl⟩ := exec_related (carried_enabledAs b) rfl heffect ht
  rw [ht]
  exact ht'

/-! The session counters, R28, R37. -/

/-- The timing rules hold, and the states differ in counters and draws at most. -/
def TimingButCounters (s s' : State) : Prop := s.cfg.variant = .timing ∧ SameButCounters s s'

section counters
variable {s s' : State} {i : Instr}

theorem SameButCounters.exists_eq (h : SameButCounters s s') : ∃ k d, s' = { s with cnt := k, draws := d } :=
  ⟨_, _, h⟩

theorem carried_timingButCounters : Carried TimingButCounters where
  fault h := by rw [h.2]
  cfg h := by rw [h.2]
  acc h := by rw [h.2]
  refuse h := ⟨h.1, by rw [h.2]; rfl⟩
  raiseFault _ h := ⟨h.1, by rw [h.2]; rfl⟩

/-- No path and no charge reads the counters, so each path leaves states that differ in them at most. -/
theorem effectOf_timingButCounters (h : TimingButCounters s s') :
    Related TimingButCounters (effectOf i s) (effectOf i s') := by
  obtain ⟨hv, heq⟩ := h
  obtain ⟨k, d, rfl⟩ := SameButCounters.exists_eq heq
  have haccess : ∀ isWrite addr, Related TimingButCounters (accessTiming isWrite addr s)
      (accessTiming isWrite addr { s with cnt := k, draws := d }) := fun _ _ =>
    accessTiming_related rfl Iff.rfl rfl rfl ⟨hv, rfl⟩ (fun _ _ => ⟨hv, rfl⟩) ⟨hv, rfl⟩ (fun _ => ⟨hv, rfl⟩)
  exact effectOf_related carried_timingButCounters ⟨hv, rfl⟩ (fun _ => haccess)
    (fun hp => absurd (hv.symm.trans hp) nofun) (fun _ => ⟨hv, rfl⟩) ⟨hv, rfl⟩ (fun _ _ => ⟨hv, rfl⟩)
    (fun _ _ => ⟨hv, rfl⟩)

end counters

/-- Settles O49: the relation is carried along by every command, and by the port and the reset input, which leave the
counters alone or clear them in both states. -/
theorem countersInfluenceNothing : Obligations.CountersInfluenceNothing := by
  intro s s' t hv h hx
  obtain ⟨t', ht', _, hrel⟩ := step_related (R := TimingButCounters) (fun h => by rw [h.2])
    (fun rest h => ⟨h.1, by rw [h.2]⟩) (fun h => ⟨h.1, by rw [h.2]; rfl⟩)
    (fun h => exec_related carried_timingButCounters h (effectOf_timingButCounters h)) ⟨hv, h⟩ hx
  exact ⟨t', ht', hrel⟩

/-! The tags of invalid lines, R23. -/

section tags
variable {s s' t t' : State} {l l' : Line} {i : Instr} {isWrite : Bool} {addr : Addr}

theorem Line.Alike.refl (l : Line) : l.Alike l := ⟨rfl, rfl, fun _ => rfl⟩

theorem Line.Alike.hits (h : l.Alike l') (tg : Tag) : l'.hits tg = l.hits tg := by
  obtain ⟨hvalid, _, htag⟩ := h
  cases hv : l.valid with
  | false => simp [Line.hits, hvalid, hv]
  | true => simp [Line.hits, hvalid, htag hv]

theorem Line.Alike.writeBackCost (h : l.Alike l') (c : Config) :
    Machine.writeBackCost c l' = Machine.writeBackCost c l := by
  obtain ⟨hvalid, hdirty, htag⟩ := h
  cases hv : l.valid with
  | false => simp [writeBackCost_eq, hvalid, hv]
  | true => simp [writeBackCost_eq, hvalid, hdirty, htag hv]

theorem Line.Alike.writeHit (h : l.Alike l') (p : Policy) : (l.writeHit p).Alike (l'.writeHit p) :=
  ⟨h.1, rfl, h.2.2⟩

theorem Line.Alike.flushed (l l' : Line) : l.flushed.Alike l'.flushed := ⟨rfl, rfl, nofun⟩

theorem SameButInvalidTags.exists_eq (h : SameButInvalidTags s s') :
    (∃ v, s' = { s with lines := v }) ∧ ∀ e w, (s.line e w).Alike (s'.line e w) :=
  ⟨⟨_, h.1⟩, h.2⟩

theorem SameButInvalidTags.lookup (h : SameButInvalidTags s s') (e : EntryIx) (tg : Tag) :
    s'.lookup e tg = s.lookup e tg := by
  have hhits : ∀ w, (s'.line e w).hits tg = (s.line e w).hits tg := fun w => (h.2 e w).hits tg
  simp only [State.lookup, hhits]

theorem SameButInvalidTags.victimCharge (h : SameButInvalidTags s s') (v : Way) :
    s'.victimCharge isWrite addr v = s.victimCharge isWrite addr v := by
  have hcfg : s'.cfg = s.cfg := by rw [h.1]
  rw [State.victimCharge, State.victimCharge, hcfg, (h.2 (index addr) v).writeBackCost]

theorem SameButInvalidTags.flushCost (h : SameButInvalidTags s s') : s'.flushCost = s.flushCost := by
  have hcfg : s'.cfg = s.cfg := by rw [h.1]
  have hcost : ∀ e w, writeBackCost s.cfg (s'.line e w) = writeBackCost s.cfg (s.line e w) :=
    fun e w => (h.2 e w).writeBackCost s.cfg
  simp only [State.flushCost_eq_sum, hcfg, hcost]

theorem carried_sameButInvalidTags : Carried SameButInvalidTags where
  fault h := by rw [h.1]
  cfg h := by rw [h.1]
  acc h := by rw [h.1]
  refuse h := ⟨by rw [h.1]; rfl, h.2⟩
  raiseFault _ h := ⟨by rw [h.1]; rfl, h.2⟩

/-- A hit writes alike lines, of which the scan found one valid. -/
theorem SameButInvalidTags.hitAt (h : SameButInvalidTags s s') (w : Way) :
    SameButInvalidTags (s.hitAt isWrite addr w) (s'.hitAt isWrite addr w) := by
  obtain ⟨⟨v, rfl⟩, halike⟩ := h.exists_eq
  refine ⟨rfl, fun e' w' => ?_⟩
  rw [State.line_hitAt, State.line_hitAt]
  split
  · cases isWrite with
    | true => exact (halike (index addr) w).writeHit _
    | false => exact halike (index addr) w
  · exact halike e' w'

/-- An allocating miss installs one line, after evicting alike ones at one cost. -/
theorem SameButInvalidTags.allocated (h : SameButInvalidTags s s') (v : Way) :
    SameButInvalidTags (s.allocated isWrite addr v) (s'.allocated isWrite addr v) := by
  have hvictim : s'.victimCharge isWrite addr v = s.victimCharge isWrite addr v := h.victimCharge v
  obtain ⟨⟨L, rfl⟩, halike⟩ := h.exists_eq
  refine ⟨?_, fun e' w' => ?_⟩
  · rw [State.allocated, hvictim]
    rfl
  · rw [State.line_allocated, State.line_allocated]
    split
    · exact .refl _
    · exact halike e' w'

theorem SameButInvalidTags.flushedAll (h : SameButInvalidTags s s') :
    SameButInvalidTags s.flushedAll s'.flushedAll := by
  have hcost := h.flushCost
  obtain ⟨⟨L, rfl⟩, _⟩ := h.exists_eq
  refine ⟨?_, fun e w => ?_⟩
  · rw [State.flushedAll, hcost]
    rfl
  · rw [State.line_flushedAll, State.line_flushedAll]
    exact .flushed _ _

/-- Alike lines hit, cost and are written alike, so each path leaves states that differ in tags of invalid lines at
most. -/
theorem effectOf_sameButInvalidTags (h : SameButInvalidTags s s') :
    Related SameButInvalidTags (effectOf i s) (effectOf i s') := by
  have haccess : ∀ isWrite addr,
      Related SameButInvalidTags (accessTiming isWrite addr s) (accessTiming isWrite addr s') := by
    intro isWrite addr
    have hlookup := h.lookup (index addr) (tag addr)
    have hhit : ∀ w, SameButInvalidTags (s.hitAt isWrite addr w) (s'.hitAt isWrite addr w) := h.hitAt
    have hallocated : ∀ v, SameButInvalidTags (s.allocated isWrite addr v) (s'.allocated isWrite addr v) := h.allocated
    obtain ⟨⟨L, rfl⟩, halike⟩ := h.exists_eq
    exact accessTiming_related rfl Iff.rfl hlookup rfl ⟨rfl, halike⟩ (fun w _ => hhit w) ⟨rfl, halike⟩ hallocated
  have hflush := h.flushedAll
  obtain ⟨⟨L, rfl⟩, halike⟩ := h.exists_eq
  exact effectOf_related carried_sameButInvalidTags h (fun _ => haccess) (fun _ => .ok ⟨rfl, halike⟩) (fun _ => hflush)
    ⟨rfl, halike⟩ (fun _ _ => ⟨rfl, halike⟩) (fun _ _ => ⟨rfl, halike⟩)

end tags

/-- Settles O50: the relation is carried along by every command, by the port, which leaves the lines alone, and by the
reset input, which resets them in both states. -/
theorem tagsOfInvalidLinesInfluenceNothing : Obligations.TagsOfInvalidLinesInfluenceNothing := by
  intro s s' t h hx
  exact step_related (R := SameButInvalidTags) (fun h => by rw [h.1]) (fun rest h => ⟨by rw [h.1], h.2⟩)
    (fun h => ⟨by rw [h.1]; rfl, fun e w => .refl _⟩)
    (fun h => exec_related carried_sameButInvalidTags h (effectOf_sameButInvalidTags h)) h hx

end Sys2Proof.Machine
end
